-- ==== Sys2Proof/Word.lean ====
section
/-! DEFINITION. The words of the part: bytes of host and field frames, 16-bit and 32-bit values (spec 10, R162). -/

namespace Sys2Proof

/-- One byte of a host frame, or the data of one field character. -/
abbrev Byte := BitVec 8

/-- A value of two bytes: counters, start items, periods, update numbers, CRC. -/
abbrev Half := BitVec 16

/-- A value of four bytes: part time and image generations. -/
abbrev Word := BitVec 32

end Sys2Proof
end

