-- ==== Sys2Proof/Syntax.lean ====
section
/-! DEFINITION. The commands of the part: one constructor per row of spec/opcode_table.json. -/

namespace Sys2Proof

/-- The two field lines (R162: 0 is Line A, 1 is Line B). -/
inductive LineId where
  | a
  | b
deriving DecidableEq, Repr

/-- The steps of the part. A request row has no operand: its frame lies in the oldest FULL request slot (R154, log entry 1).
An event row has the operands that say what arrived from outside. -/
inductive Instr where
  /-- STATUS, R159. -/
  | status
  /-- RESET, R160. -/
  | resetRequest
  /-- LINE_SET, R67. -/
  | lineSet
  /-- LINE_ENABLE, R66. -/
  | lineEnable
  /-- LINE_DISABLE, R65. -/
  | lineDisable
  /-- LINE_INFO, R70. -/
  | lineInfo
  /-- NODE_ADD, R9. -/
  | nodeAdd
  /-- NODE_SET, R10. -/
  | nodeSet
  /-- NODE_REMOVE, R13. -/
  | nodeRemove
  /-- NODE_ENABLE, R11. -/
  | nodeEnable
  /-- NODE_DISABLE, R12. -/
  | nodeDisable
  /-- NODE_INFO, R15. -/
  | nodeInfo
  /-- READ_SNAPSHOT, R95. -/
  | readSnapshot
  /-- DEMAND, R109. -/
  | demand
  /-- BROADCAST, R114. -/
  | broadcast
  /-- CANCEL, R119. -/
  | cancel
  /-- SCAN_START, R124. -/
  | scanStart
  /-- SCAN_ABORT, R131. -/
  | scanAbort
  /-- STORE_SAVE, R137. -/
  | storeSave
  /-- STORE_ERASE, R140. -/
  | storeErase
  /-- UNKNOWN_KIND, R156. -/
  | unknownKind
  /-- WRITE_TRANSACTION_START, R147: a start condition with this 7-bit address and the write direction. -/
  | writeTransactionStart (address : BitVec 7)
  /-- WRITE_TRANSACTION_END, R148: the stop, or the repeated start, that ends a write. -/
  | writeTransactionEnd
  /-- READ_TRANSACTION_START, R149: a start condition with this 7-bit address and the read direction. -/
  | readTransactionStart (address : BitVec 7)
  /-- READ_TRANSACTION_END, R150: the stop, or the repeated start, that ends a read. -/
  | readTransactionEnd
  /-- STALL_TIMER_EXPIRY, R151: 25 ms without an SCL edge. -/
  | stallTimerExpiry
  /-- POWER_UP, R161. -/
  | powerUp
  /-- RST_PIN_LOW, R161: RST# has been low for 10 microseconds. -/
  | rstPinLow
  /-- RESET_COMPLETE, R161: the reset condition has ended, with these levels on the strap pins. -/
  | resetComplete (adr1 adr0 : Bool)
  /-- POLL_TIMER_EXPIRY, R74, of the node at this index. -/
  | pollTimerExpiry (index : Nat)
  /-- RECOVERY_TIMER_EXPIRY, R75, of the node at this index. -/
  | recoveryTimerExpiry (index : Nat)
  /-- DUE_TIME_ADVANCE, R78, of the due-list entry of this index. -/
  | dueTimeAdvance (index : Nat)
  /-- SNAPSHOT_AGE_OUT, R93, of the record of this index. -/
  | snapshotAgeOut (index : Nat)
  /-- RESPONSE_TIMER_EXPIRY, R31: the response timeout has passed since the last stop bit. -/
  | responseTimerExpiry (line : LineId)
  /-- FRAME_GAP_EXPIRY, R54: five character times with no new character of the open frame. -/
  | frameGapExpiry (line : LineId)
  /-- ECHO_DEADLINE_EXPIRY, R52: one character time after the stop bit of a character whose echo has not passed. -/
  | echoDeadlineExpiry (line : LineId)
  /-- STUCK_SPACE_EXPIRY, R60: 20 character times of space. -/
  | stuckSpaceExpiry (line : LineId)
  /-- FAULT_RECOVERY, R64: 100 ms of mark. -/
  | faultRecovery (line : LineId)
  /-- GUARD_END, R59: the guard period has passed. -/
  | guardEnd (line : LineId)
  /-- FIELD_CHARACTER_RECEIVED, R54: of the 11 bits that the receiver sampled (R49), the data byte, the mark bit, and whether the
  stop bit was at mark (`sampledCharacter`). -/
  | fieldCharacterReceived (line : LineId) (data : Byte) (mark good : Bool)
  /-- SAVE_WRITE_COMPLETION, R138. The store rows name by its number the phase they belong to (R142, log entry 30). The first
  phase has number 1: a row written without a number belongs to none, and reaches no job. -/
  | saveWriteCompletion (phase : Nat := 0)
  /-- SAVE_WRITE_TIMER_EXPIRY, R138. -/
  | saveWriteTimerExpiry (phase : Nat := 0)
  /-- SAVE_VERIFY_READ_BACK, R138: whether every byte read back equals the byte written. -/
  | saveVerifyReadBack (equal : Bool) (phase : Nat := 0)
  /-- SAVE_MARK_WRITE_COMPLETION, R138. -/
  | saveMarkWriteCompletion (phase : Nat := 0)
  /-- SAVE_VERIFY_TIMER_EXPIRY, R138. -/
  | saveVerifyTimerExpiry (phase : Nat := 0)
  /-- ERASE_INVALIDATION_COMPLETION, R140: whether the validity mark reads back cleared. -/
  | eraseInvalidationCompletion (cleared : Bool) (phase : Nat := 0)
  /-- ERASE_TIMER_EXPIRY, R140. -/
  | eraseTimerExpiry (phase : Nat := 0)
  /-- PART_TIME_TICK, R71. -/
  | partTimeTick
  /-- STOP_BIT_SENT, R49. -/
  | stopBitSent (line : LineId)
  /-- RECEIVE_PIN_CHANGE, R64 and R50: the receive pin is now at mark, or at space. -/
  | receivePinChange (line : LineId) (mark : Bool)
  /-- WRITE_DATA_BYTE, R147. -/
  | writeDataByte (data : Byte)
  /-- READ_BYTE_CLOCKED, R150. -/
  | readByteClocked
deriving DecidableEq, Repr

end Sys2Proof
end

