-- ==== Sys2Proof/Decode.lean ====
section
/-! DEFINITION. The commands that a word spells. No row of spec/opcode_table.json gives bits, so no word spells one.
The decoding of host request frames, which is the part's own, stands in Sys2Proof/Machine/Operands.lean. -/

namespace Sys2Proof

/-- The command a table word spells: none, for every word, since every row's "fields" is empty. -/
def decodeTableWord (_nbits _w : Nat) : Option Instr := none

end Sys2Proof
end

