-- ==== Sys2Proof/Config.lean ====
section
/-! DEFINITION. The fixed sizes and durations of the part. The spec leaves no value open to an implementation,
so there is no free value here. -/

namespace Sys2Proof.Config

/-- Bytes of the outbound queue (R153). -/
def outboundCapacity : Nat := 2048

/-- Entries of one line's demand queue (R107). -/
def demandQueueCapacity : Nat := 8

/-- Entries of a scan job's found list (R123). -/
def foundListCapacity : Nat := 16

/-- The largest demand streak (R84). -/
def streakLimit : Nat := 4

/-- The consecutive collision count that takes a line to FAULT (R63). -/
def collisionLimit : Nat := 4

/-- Data bytes a request slot stores (R147). -/
def slotCapacity : Nat := 63

/-- Milliseconds a due time may lie behind part time (R78). -/
def dueBound : Word := 60000

/-- Milliseconds of age at which the aged-out indicator is set (R93). -/
def ageBound : Word := 240000

/-- The largest LEN of a field frame (R34, R167). -/
def fieldPayloadMax : Nat := 48

/-- The reservation of a scan job (R124). -/
def scanReservation : Nat := 57

/-- The reservation of a SAVE job (R164). -/
def saveReservation : Nat := 10

/-- The reservation of an ERASE job (R140). -/
def eraseReservation : Nat := 6

/-- The lowest of the four target addresses (R145). -/
def targetBase : BitVec 7 := 0x3A

end Sys2Proof.Config
end

