-- ==== Sys2Proof/Machine/State.lean ====
section
/-! DEFINITION. The state of the part, as plain data, and its value right after a reset. -/

namespace Sys2Proof.Machine

/-- The position of a node entry in the node table, 0..31 (R1). -/
abbrev Index := Fin 32

/-! ## The node table (chapter 1) -/

/-- The states of a node entry (R5). -/
inductive NodeState where
  | new
  | online
  | suspect
  | offline
  | disabled
  | removing
deriving DecidableEq, Repr

/-- The transaction mark of a node entry (R4). -/
inductive TransactionMark where
  | none
  | attached
  | detached
deriving DecidableEq, Repr

/-- A poll descriptor: what a node's poll reads (R1). -/
structure PollDescriptor where
  start : Half
  count : Byte
deriving DecidableEq, Repr

/-- The configuration fields of a node entry (R1). Their ranges are `NodeConfig.inRange`. -/
structure NodeConfig where
  address : Byte
  line : LineId
  descriptor : Option PollDescriptor
  period : Half
  timeout : Byte
  retries : Byte
  limit : Byte
  notify : Bool
deriving DecidableEq, Repr

/-- The five counters of a node entry (R3). -/
structure NodeCounters where
  good : Half := 0
  exceptions : Half := 0
  timeouts : Half := 0
  corrupt : Half := 0
  latePolls : Half := 0
deriving DecidableEq, Repr

/-- A node entry in use (R1). -/
structure Node where
  config : NodeConfig
  state : NodeState
  failures : Nat := 0
  nextSequence : Byte := 0
  lastException : Byte := 0
  mark : TransactionMark := .none
  counters : NodeCounters := {}
deriving DecidableEq, Repr

/-! ## Snapshots and notices (chapter 5) -/

/-- The stored payload of a node's last successful poll (R91). -/
structure SnapshotRecord where
  payload : List Byte
  captured : Word
  agedOut : Bool
deriving DecidableEq, Repr

/-- What the Snapshot Table holds for an index in a live state (R91). -/
structure Snapshot where
  update : Half := 0
  record : Option SnapshotRecord := none
deriving DecidableEq, Repr

/-- What a pending notice concerns (R96). READY is never marked. -/
inductive Subject where
  | nodeState (index : Index)
  | change (index : Index)
  | lineState (line : LineId)
  | linkError
deriving DecidableEq, Repr

/-! ## Field transactions (chapter 2) -/

/-- The operation of a transaction, with the fields it carries (R25, R108). -/
inductive Operation where
  | ping
  | read (start : Half) (count : Byte)
  | write (start : Half) (count : Byte) (data : List Byte)
deriving DecidableEq, Repr

/-- The outcome of an attempt or a transaction, with its content (R35, R39, R43). -/
inductive FieldOutcome where
  | ok (content : List Byte)
  | exception (reason : Byte)
  | timeout
  | corrupt
  | collision
  | lineOff
  | lineFault
deriving DecidableEq, Repr

/-- The kind of a transaction (R25, R26), with the node index and the tag where the kind has them.
A poll carries the due time it was started from (R79); a demand or broadcast carries its reserved reply size (R121). -/
inductive TransactionKind where
  | poll (index : Index) (due : Word)
  | demand (index : Index) (tag : Byte) (reserved : Nat)
  | recoveryProbe (index : Index)
  | broadcast (tag : Byte) (reserved : Nat)
  | scanProbe
deriving DecidableEq, Repr

/-- The transaction record of a line (R25). -/
structure Transaction where
  kind : TransactionKind
  target : Byte
  operation : Operation
  sequence : Byte
  allowed : Nat
  made : Nat
  timeout : Option Byte
  last : Option FieldOutcome
deriving DecidableEq, Repr

/-! ## The line scheduler (chapters 4, 6 and 7) -/

/-- Why a node stands in the due list (R76). -/
inductive DueKind where
  | poll
  | recovery
deriving DecidableEq, Repr

/-- An entry of the due list (R76). -/
structure DueEntry where
  index : Index
  kind : DueKind
  due : Word
deriving DecidableEq, Repr

/-- An entry of the demand queue (R108). A BROADCAST names no node. -/
structure DemandEntry where
  tag : Byte
  node : Option Index
  operation : Operation
  reserved : Nat
deriving DecidableEq, Repr

/-- An entry of a found list: an address and its node type (R123). -/
structure Found where
  address : Byte
  nodeType : Half
deriving DecidableEq, Repr

/-- A scan job (R123). -/
structure ScanJob where
  tag : Byte
  first : Byte
  last : Byte
  timeout : Byte
  next : Byte
  probe : Option Byte
  lastProbed : Byte
  found : List Found
  abort : Bool
deriving DecidableEq, Repr

/-! ## The field line (chapter 3) -/

/-- The settings of a line (R48). Their ranges are `LineSettings.inRange`. -/
structure LineSettings where
  rate : Byte
  guardTime : Byte
  recovery : Half
  settle : Byte
deriving DecidableEq, Repr

/-- The default settings (R48). -/
def LineSettings.default : LineSettings := { rate := 1, guardTime := 2, recovery := 2000, settle := 10 }

/-- The seven line states (R47). -/
inductive LineState where
  | off
  | idle
  | sending
  | waiting
  | receiving
  | guard
  | fault
deriving DecidableEq, Repr

/-- The cause of the most recent entry into FAULT (R47). -/
inductive FaultCause where
  | none
  | stuck
  | collisions
deriving DecidableEq, Repr

/-- Which setting gives the guard period (R58). -/
inductive GuardKind where
  | guardTime
  | settle
deriving DecidableEq, Repr

/-- The five counters of a line (R68). -/
structure LineCounters where
  stray : Half := 0
  noise : Half := 0
  framing : Half := 0
  collisions : Half := 0
  faults : Half := 0
deriving DecidableEq, Repr

/-- The response timer of an attempt (R31). -/
inductive ResponseTimer where
  | stopped
  | running
  | halted
deriving DecidableEq, Repr

/-- The character the receiver is taking, by the moment at which its start bit began (R50, R52, log entry 8).
`echo k`: while the line was SENDING and k stop bits had been sent. `plain`: at any other moment.
`held`: its stop bit was sampled at space, and it ends when the pin returns to mark (R50, log entry 9). -/
inductive Reception where
  | plain
  | echo (sent : Nat)
  | held
deriving DecidableEq, Repr

/-- One Line Engine (R47) and its Line Scheduler (R73). -/
structure Line where
  settings : LineSettings := LineSettings.default
  enabled : Bool := false
  state : LineState := .off
  faultCause : FaultCause := .none
  collisionRun : Nat := 0
  sequence : Byte := 0
  transaction : Option Transaction := none
  openFrame : Option (List Byte) := none
  guardKind : Option GuardKind := none
  counters : LineCounters := {}
  /-- The request frame of the attempt in SENDING, empty in every other state. -/
  frame : List Byte := []
  /-- The characters of `frame` whose stop bit has been sent (R49). -/
  sent : Nat := 0
  /-- The characters of `frame` whose echo has passed its check (R52). -/
  echoed : Nat := 0
  timer : ResponseTimer := .stopped
  /-- The response timeout has passed while its expiry was held off (R31, R36, log entry 6). -/
  elapsed : Bool := false
  /-- The level of the receive pin: true is mark. -/
  pinMark : Bool := true
  reception : Option Reception := none
  pollTimers : Vector (Option Word) 32 := Vector.replicate 32 none
  recoveryTimers : Vector (Option Word) 32 := Vector.replicate 32 none
  dueList : List DueEntry := []
  demandQueue : List DemandEntry := []
  streak : Nat := 0
  scan : Option ScanJob := none
deriving DecidableEq, Repr

/-! ## Messages (chapters 9 and 10) -/

/-- The reply statuses (R166). -/
inductive Status where
  | ok
  | unknownKind
  | badBody
  | tagInUse
  | noSuchNode
  | duplicate
  | tableFull
  | nodeActive
  | nodeDisabled
  | nodeDown
  | nodeRemoved
  | lineOff
  | lineFault
  | lineActive
  | queueFull
  | timeout
  | corrupt
  | collision
  | exception
  | cancelled
  | notFound
  | tooLate
  | busy
  | noScan
  | aborted
  | listFull
  | storeFailed
deriving DecidableEq, Repr

/-- The causes of a reset (R161). -/
inductive ResetCause where
  | power
  | pin
  | request
deriving DecidableEq, Repr

/-- The twenty request kinds (R163). -/
inductive RequestKind where
  | status
  | reset
  | lineSet
  | lineEnable
  | lineDisable
  | lineInfo
  | nodeAdd
  | nodeSet
  | nodeRemove
  | nodeEnable
  | nodeDisable
  | nodeInfo
  | readSnapshot
  | demand
  | broadcast
  | cancel
  | scanStart
  | scanAbort
  | storeSave
  | storeErase
deriving DecidableEq, Repr

/-- A reply: its KIND byte, its tag, its status, and the body bytes after the status (R162, R164). -/
structure Reply where
  kind : Byte
  tag : Byte
  status : Status
  data : List Byte
deriving DecidableEq, Repr

/-- A notice, with the content built at its admission (R96, R165). -/
inductive Notice where
  | ready (cause : ResetCause) (generation : Word) (strap : BitVec 2)
  | nodeState (index : Index) (address : Byte) (line : LineId) (state : NodeState)
  | change (index : Index) (address : Byte) (update : Half)
  | lineState (line : LineId) (state : LineState) (cause : FaultCause)
  | linkError (count : Byte)
deriving DecidableEq, Repr

/-- A whole message of the outbound queue (R153). -/
inductive Message where
  | reply (r : Reply)
  | notice (n : Notice)
deriving DecidableEq, Repr

/-! ## The host link (chapter 9) -/

/-- The two request slots, and the two image slots of the store (R134, R146). -/
inductive SlotId where
  | s0
  | s1
deriving DecidableEq, Repr

/-- A request slot (R146), with the bytes stored in it. -/
inductive RequestSlot where
  | free
  | filling (bytes : List Byte)
  | full (bytes : List Byte)
deriving DecidableEq, Repr

/-- The transaction in progress on the I2C link (R146). -/
inductive LinkTransaction where
  | none
  | write (slot : SlotId) (overLength : Bool)
  | read (message : Option Message) (sent : Nat)
deriving DecidableEq, Repr

/-! ## The configuration store (chapter 8) -/

/-- A node record of an image (R135). -/
structure NodeRecord where
  index : Index
  config : NodeConfig
  disabled : Bool
deriving DecidableEq, Repr

/-- The content of an image (R135), its generation and CRC apart. -/
structure Image where
  settingsA : LineSettings
  enabledA : Bool
  settingsB : LineSettings
  enabledB : Bool
  nodes : List NodeRecord
deriving DecidableEq, Repr

/-- The image of a part that has none: default settings, both lines off, no node (R143). -/
def Image.empty : Image :=
  { settingsA := LineSettings.default, enabledA := false, settingsB := LineSettings.default, enabledB := false, nodes := [] }

/-- An image slot (R134). `crcGood` says that the CRC stored equals the CRC over generation and content (log entry 13). -/
structure StoreSlot where
  mark : Bool
  crcGood : Bool
  generation : Word
  image : Image
deriving DecidableEq, Repr

/-- A slot with no image in it. -/
def StoreSlot.blank : StoreSlot := { mark := false, crcGood := false, generation := 0, image := Image.empty }

/-- The phases of a SAVE job (R138): WRITE, and VERIFY before and after the read-back. -/
inductive SavePhase where
  | write
  | readBack
  | markWrite
deriving DecidableEq, Repr

/-- A store job (R136). An ERASE job holds the slot being invalidated, the slots after it, and whether the slot being
invalidated held the current generation when its invalidation started (R140). -/
inductive StoreJob where
  | save (tag : Byte) (phase : SavePhase) (image : Image) (target : SlotId) (generation : Word)
  | erase (tag : Byte) (slot : SlotId) (rest : List SlotId) (heldCurrent : Bool)
deriving DecidableEq, Repr

/-! ## The whole part -/

/-- The state of the part: every item the spec gives a block (INVENTORY.md, State), and the command queue. -/
structure State where
  strap : BitVec 2
  slot0 : RequestSlot
  slot1 : RequestSlot
  slotOrder : List SlotId
  link : LinkTransaction
  /-- The device drove the last acknowledge bit (the model's own output field, log entry 16). -/
  linkAck : Bool
  /-- The byte the device last drove on SDA (the model's own output field, log entry 16). -/
  linkByte : Byte
  outbound : List Message
  reserved : Nat
  tags : List Byte
  nodes : Vector (Option Node) 32
  snapshots : Vector (Option Snapshot) 32
  notices : List Subject
  linkErrors : Byte
  lineA : Line
  lineB : Line
  partTime : Word
  storeSlot0 : StoreSlot
  storeSlot1 : StoreSlot
  storeJob : Option StoreJob
  configChanged : Bool
  changedAfterCapture : Bool
  generation : Word
  /-- The phases of store jobs begun so far: the number of the phase now running, if a job is present, by which a store row says
  whether it belongs to it (the model's own field, log entry 30). -/
  storePhases : Nat
  /-- The reset in progress, by the cause it will report (R161). -/
  resetting : Option ResetCause
  /-- The commands that wait, first in, first out (the model's own field). -/
  pending : List Instr
deriving DecidableEq, Repr

/-- Why the machine stops with a fault. No meaning raises one: every row of the table ends in a next state. Safe. -/
inductive Fault where
  /-- Raised by no meaning; it stands so that the type has a name to list. Safe. -/
  | neverRaised
deriving DecidableEq, Repr

/-- Why a command is turned away without a meaning. -/
inductive Refusal where
  /-- Raised by `exec` alone, for a row that has no meaning yet (there is none). Safe. -/
  | notModelled (mnemonic : String)
deriving DecidableEq, Repr

/-- The part right after a POWER reset with both strap pins low and no image in the store: every item at the reset value
its chapter gives, READY queued (R146, R47, R73, R105, R136, R24). The cause, the straps and the empty store are the
model's choice (log entry 14). -/
def State.reset : State where
  strap := 0
  slot0 := .free
  slot1 := .free
  slotOrder := []
  link := .none
  linkAck := false
  linkByte := 0xFF
  outbound := [.notice (.ready .power 0 0)]
  reserved := 0
  tags := []
  nodes := Vector.replicate 32 none
  snapshots := Vector.replicate 32 none
  notices := []
  linkErrors := 0
  lineA := {}
  lineB := {}
  partTime := 0
  storeSlot0 := StoreSlot.blank
  storeSlot1 := StoreSlot.blank
  storeJob := none
  configChanged := false
  changedAfterCapture := false
  generation := 0
  storePhases := 0
  resetting := none
  pending := []

end Sys2Proof.Machine
end

