-- ==== Sys2Proof/Machine/Flags.lean ====
section
/-! DEFINITION. Counters, part-time comparison, byte order, the CRC, and the codes and flag bytes of chapter 10. -/

namespace Sys2Proof.Machine

/-! ## Counters and part time -/

/-- A 16-bit counter increment that stays at 65535 (R3, R68). -/
def countUp (c : Half) : Half := if c = 0xFFFF then c else c + 1

/-- The link error count increment that stays at 255 (R101). -/
def countLinkError (c : Byte) : Byte := if c = 0xFF then c else c + 1

/-- Part time `t1` is later than part time `t2` (R72). -/
def later (t1 t2 : Word) : Bool := 1 ≤ (t1 - t2).toNat && (t1 - t2).toNat ≤ 2147483647

/-! ## Byte order and CRC -/

/-- A 16-bit value, high byte first (R162). -/
def halfBytes (v : Half) : List Byte := [v.extractLsb' 8 8, v.extractLsb' 0 8]

/-- A 32-bit value, most significant byte first (R162). -/
def wordBytes (v : Word) : List Byte :=
  [v.extractLsb' 24 8, v.extractLsb' 16 8, v.extractLsb' 8 8, v.extractLsb' 0 8]

/-- Two bytes read high byte first (R162). -/
def halfOf (high low : Byte) : Half := high ++ low

/-- One byte of a count or flag. -/
def byteOf (n : Nat) : Byte := BitVec.ofNat 8 n

/-- One bit of the CRC computation (R53). -/
def crcBit (r : Half) (bit : Bool) : Half := if r.msb != bit then (r <<< 1) ^^^ 0x1021 else r <<< 1

/-- One byte of the CRC computation, most significant bit first (R53). -/
def crcByte (r : Half) (b : Byte) : Half := [7, 6, 5, 4, 3, 2, 1, 0].foldl (fun r k => crcBit r (b.getLsbD k)) r

/-- The CRC of both frame families: initial value 0xFFFF, no final inversion (R53). -/
def crc (bytes : List Byte) : Half := bytes.foldl crcByte 0xFFFF

/-- Bytes followed by their CRC, high byte first (R53, R162). -/
def withCrc (bytes : List Byte) : List Byte := bytes ++ halfBytes (crc bytes)

/-! ## Codes -/

/-- One-byte flag, 0 or 1 (R164 note 3). -/
def flagByte (b : Bool) : Byte := if b then 1 else 0

/-- Line codes (R162). -/
def lineCode : LineId → Byte
  | .a => 0
  | .b => 1

/-- Node state codes (R162). REMOVING has none, and no message reports it (R100, log entry 11). -/
def NodeState.code : NodeState → Option Byte
  | .new => some 0
  | .online => some 1
  | .suspect => some 2
  | .offline => some 3
  | .disabled => some 4
  | .removing => none

/-- The bytes of a node state in a body: its code, and nothing for REMOVING, which is never reported (R162). -/
def NodeState.bytes (n : NodeState) : List Byte := n.code.toList

/-- Line state codes (R162). -/
def LineState.code : LineState → Byte
  | .off => 0
  | .idle => 1
  | .sending => 2
  | .waiting => 3
  | .receiving => 4
  | .guard => 5
  | .fault => 6

/-- Fault cause codes (R162). -/
def FaultCause.code : FaultCause → Byte
  | .none => 0
  | .stuck => 1
  | .collisions => 2

/-- Operation codes of a DEMAND (R162). -/
def Operation.code : Operation → Byte
  | .ping => 1
  | .read _ _ => 2
  | .write _ _ _ => 3

/-- Reset cause codes (R162). -/
def ResetCause.code : ResetCause → Byte
  | .power => 1
  | .pin => 2
  | .request => 3

/-- Status codes (R166). -/
def Status.code : Status → Byte
  | .ok => 0x00
  | .unknownKind => 0x01
  | .badBody => 0x02
  | .tagInUse => 0x03
  | .noSuchNode => 0x10
  | .duplicate => 0x11
  | .tableFull => 0x12
  | .nodeActive => 0x13
  | .nodeDisabled => 0x14
  | .nodeDown => 0x15
  | .nodeRemoved => 0x16
  | .lineOff => 0x20
  | .lineFault => 0x21
  | .lineActive => 0x22
  | .queueFull => 0x23
  | .timeout => 0x30
  | .corrupt => 0x31
  | .collision => 0x32
  | .exception => 0x33
  | .cancelled => 0x40
  | .notFound => 0x41
  | .tooLate => 0x42
  | .busy => 0x50
  | .noScan => 0x51
  | .aborted => 0x52
  | .listFull => 0x53
  | .storeFailed => 0x60

/-- Request kind codes (R163). -/
def RequestKind.code : RequestKind → Byte
  | .status => 0x01
  | .reset => 0x02
  | .lineSet => 0x10
  | .lineEnable => 0x11
  | .lineDisable => 0x12
  | .lineInfo => 0x13
  | .nodeAdd => 0x20
  | .nodeSet => 0x21
  | .nodeRemove => 0x22
  | .nodeEnable => 0x23
  | .nodeDisable => 0x24
  | .nodeInfo => 0x25
  | .readSnapshot => 0x30
  | .demand => 0x40
  | .broadcast => 0x41
  | .cancel => 0x42
  | .scanStart => 0x50
  | .scanAbort => 0x51
  | .storeSave => 0x60
  | .storeErase => 0x61

/-- The request kind of a KIND byte, if it is one of the twenty (R156 check 1). -/
def requestKindOf (b : Byte) : Option RequestKind :=
  match b.toNat with
  | 0x01 => some .status
  | 0x02 => some .reset
  | 0x10 => some .lineSet
  | 0x11 => some .lineEnable
  | 0x12 => some .lineDisable
  | 0x13 => some .lineInfo
  | 0x20 => some .nodeAdd
  | 0x21 => some .nodeSet
  | 0x22 => some .nodeRemove
  | 0x23 => some .nodeEnable
  | 0x24 => some .nodeDisable
  | 0x25 => some .nodeInfo
  | 0x30 => some .readSnapshot
  | 0x40 => some .demand
  | 0x41 => some .broadcast
  | 0x42 => some .cancel
  | 0x50 => some .scanStart
  | 0x51 => some .scanAbort
  | 0x60 => some .storeSave
  | 0x61 => some .storeErase
  | _ => none

/-- The KIND of a reply: the request kind plus 0x80 (R156, R162). -/
def RequestKind.replyKind (k : RequestKind) : Byte := k.code + 0x80

/-- The KIND of an UNKNOWN-KIND reply (R156). -/
def unknownReplyKind : Byte := 0xFF

/-- The status that reports a field outcome in a deferred reply (R113, R116). -/
def FieldOutcome.status : FieldOutcome → Status
  | .ok _ => .ok
  | .exception _ => .exception
  | .timeout => .timeout
  | .corrupt => .corrupt
  | .collision => .collision
  | .lineOff => .lineOff
  | .lineFault => .lineFault

/-- The data a demand's reply carries for its outcome (R113). -/
def FieldOutcome.data : FieldOutcome → List Byte
  | .ok content => content
  | .exception reason => [reason]
  | .timeout | .corrupt | .collision | .lineOff | .lineFault => []

/-- The node flags of NODE INFO (R164 note 3). The other six bits, 0x02 and 0x08 among them, which are flags of NODE ADD alone,
are sent as 0 (the model's choice, log entry 28). -/
def nodeFlags (c : NodeConfig) : Byte :=
  (if c.descriptor.isSome then 0x01 else 0) ||| (if c.notify then 0x04 else 0)

/-- The store flags of STATUS (R164 note 3). The other six bits are sent as 0 (the model's choice, log entry 28). -/
def storeFlags (busy changed : Bool) : Byte := (if busy then 0x01 else 0) ||| (if changed then 0x02 else 0)

end Sys2Proof.Machine
end

