-- ==== Sys2Proof/Machine/Operands.lean ====
section
/-! DEFINITION. The operands of the commands: host request frames and their bodies (R148, R156, R162, R163, R155),
and the frames of the field lines (R167). -/

namespace Sys2Proof.Machine

/-! ## Request frames -/

/-- A request frame taken apart: KIND, TAG and BODY (R162). -/
structure Request where
  kind : Byte
  tag : Byte
  body : List Byte
deriving DecidableEq, Repr

/-- The Host Link's checks of a frame: LEN in 5..63, LEN equal to the byte count, CRC good (R148). -/
def frameAccepted (bytes : List Byte) : Bool :=
  match bytes with
  | [] => false
  | len :: _ =>
    5 ≤ len.toNat && len.toNat ≤ Config.slotCapacity && len.toNat = bytes.length &&
      withCrc (bytes.take (bytes.length - 2)) = bytes

/-- The request of a checked frame: bytes 1, 2 and 3 .. LEN - 3 (R162). A frame shorter than its header holds none. -/
def requestOf (bytes : List Byte) : Option Request :=
  match bytes with
  | _ :: kind :: tag :: rest => some { kind := kind, tag := tag, body := rest.take (rest.length - 2) }
  | _ => none

/-- The frame of a request (R162). -/
def Request.frame (r : Request) : List Byte :=
  withCrc (byteOf (5 + r.body.length) :: r.kind :: r.tag :: r.body)

/-! ## Fields of a body -/

/-- A line field: 0 or 1 (R162). -/
def lineOf (b : Byte) : Option LineId := if b = 0 then some .a else if b = 1 then some .b else none

/-- An index field: 0..31 (R7). -/
def indexOf (b : Byte) : Option Index := if h : b.toNat < 32 then some ⟨b.toNat, h⟩ else none

/-- A clear flag: 0 or 1 (R162). -/
def clearOf (b : Byte) : Option Bool := if b = 0 then some false else if b = 1 then some true else none

/-- A value lies in a range, both ends included. -/
def inRange (n low high : Nat) : Bool := low ≤ n && n ≤ high

/-- An address of a node: 1..247 (R1). -/
def addressInRange (a : Byte) : Bool := inRange a.toNat 1 247

/-- The ranges of a poll descriptor (R1). -/
def PollDescriptor.inRange (d : PollDescriptor) : Bool := Machine.inRange d.count.toNat 1 24

/-- The ranges of the configuration fields (R1). -/
def NodeConfig.inRange (c : NodeConfig) : Bool :=
  addressInRange c.address && c.descriptor.all PollDescriptor.inRange && Machine.inRange c.period.toNat 10 60000 &&
    Machine.inRange c.timeout.toNat 1 250 && Machine.inRange c.retries.toNat 0 3 && Machine.inRange c.limit.toNat 1 15

/-- The ranges of the line settings (R48). -/
def LineSettings.inRange (s : LineSettings) : Bool :=
  Machine.inRange s.rate.toNat 0 6 && Machine.inRange s.guardTime.toNat 0 20 &&
    Machine.inRange s.recovery.toNat 100 60000 && Machine.inRange s.settle.toNat 1 100

/-! ## Bodies (R163) -/

/-- A body of one line field. -/
def lineBody : List Byte → Option LineId
  | [l] => lineOf l
  | _ => none

/-- A body of one index field. -/
def indexBody : List Byte → Option Index
  | [i] => indexOf i
  | _ => none

/-- The body of LINE SET. -/
def lineSetBody : List Byte → Option (LineId × LineSettings)
  | [l, rate, guardTime, rh, rl, settle] =>
    let s : LineSettings := { rate := rate, guardTime := guardTime, recovery := halfOf rh rl, settle := settle }
    if s.inRange then (lineOf l).map (fun line => (line, s)) else none
  | _ => none

/-- The body of LINE INFO. -/
def lineInfoBody : List Byte → Option (LineId × Bool)
  | [l, c] => (lineOf l).bind fun line => (clearOf c).map fun clear => (line, clear)
  | _ => none

/-- The body of NODE INFO. -/
def nodeInfoBody : List Byte → Option (Index × Bool)
  | [i, c] => (indexOf i).bind fun index => (clearOf c).map fun clear => (index, clear)
  | _ => none

/-- The descriptor group of a NODE ADD body, if the flags call for one, and what follows it (R8, R163). -/
def descriptorGroup (present : Bool) : List Byte → Option (Option PollDescriptor × List Byte)
  | body =>
    if present then
      match body with
      | sh :: sl :: count :: rest => some (some { start := halfOf sh sl, count := count }, rest)
      | _ => none
    else some (none, body)

/-- The four values of the timing group (R8). -/
structure Timing where
  period : Half
  timeout : Byte
  retries : Byte
  limit : Byte
deriving DecidableEq, Repr

/-- The timing values of a body without the timing group: 1000 ms, 20 ms, 1 and 3 (R8). -/
def Timing.default : Timing := { period := 1000, timeout := 20, retries := 1, limit := 3 }

/-- The timing group, if the flags call for one; nothing may follow it (R8, R163). -/
def timingGroup (present : Bool) : List Byte → Option Timing
  | body =>
    if present then
      match body with
      | [ph, pl, timeout, retries, limit] =>
        some { period := halfOf ph pl, timeout := timeout, retries := retries, limit := limit }
      | _ => none
    else
      match body with
      | [] => some Timing.default
      | _ => none

/-- The body of NODE ADD: the configuration and the start-disabled flag (R8, R163 notes 1 to 3). -/
def nodeBody : List Byte → Option (NodeConfig × Bool)
  | address :: l :: flags :: rest =>
    if flags.toNat < 16 then
      (lineOf l).bind fun line =>
      (descriptorGroup (flags.getLsbD 0) rest).bind fun (descriptor, rest) =>
      (timingGroup (flags.getLsbD 1) rest).bind fun t =>
        let c : NodeConfig :=
          { address := address, line := line, descriptor := descriptor, period := t.period, timeout := t.timeout,
            retries := t.retries, limit := t.limit, notify := flags.getLsbD 2 }
        if c.inRange then some (c, flags.getLsbD 3) else none
    else none
  | _ => none

/-- The body of NODE SET: an index, then the body of NODE ADD (R10). The start-disabled flag is ignored. -/
def nodeSetBody : List Byte → Option (Index × NodeConfig)
  | i :: rest => (indexOf i).bind fun index => (nodeBody rest).map fun c => (index, c.1)
  | [] => none

/-- The operation of a DEMAND body, with its counts and its length (R109). -/
def operationBody : List Byte → Option Operation
  | [1] => some .ping
  | 2 :: sh :: sl :: count :: rest =>
    if inRange count.toNat 1 24 && rest.isEmpty then some (.read (halfOf sh sl) count) else none
  | 3 :: sh :: sl :: count :: data =>
    if inRange count.toNat 1 22 && data.length = 2 * count.toNat then some (.write (halfOf sh sl) count data) else none
  | _ => none

/-- The body of DEMAND (R109). -/
def demandBody : List Byte → Option (Index × Operation)
  | i :: rest => (indexOf i).bind fun index => (operationBody rest).map fun op => (index, op)
  | [] => none

/-- The body of BROADCAST (R114). -/
def broadcastBody : List Byte → Option (LineId × Operation)
  | l :: sh :: sl :: count :: data =>
    if inRange count.toNat 1 22 && data.length = 2 * count.toNat then
      (lineOf l).map fun line => (line, .write (halfOf sh sl) count data)
    else none
  | _ => none

/-- The body of CANCEL: the target tag (R119). -/
def cancelBody : List Byte → Option Byte
  | [t] => some t
  | _ => none

/-- The body of SCAN START: line, first address, last address, probe timeout (R124). -/
def scanStartBody : List Byte → Option (LineId × Byte × Byte × Byte)
  | [l, first, last, timeout] =>
    if addressInRange first && addressInRange last && first.toNat ≤ last.toNat && inRange timeout.toNat 1 250 then
      (lineOf l).map fun line => (line, first, last, timeout)
    else none
  | _ => none

/-- A body that must be empty. -/
def emptyBody : List Byte → Option Unit
  | [] => some ()
  | _ => none

/-! ## Reservations (R155, R164) -/

/-- The reservation of a DEMAND, from the operation and the count at their places: an operation or count out of range, and a
body too short for what the size depends on, reserve the 6 bytes of BAD-BODY (R155). The size of a WRITE depends on no count,
so one too short to hold its count reserves 9 (the model's choice, log entry 12). -/
def demandReservation (body : List Byte) : Nat :=
  match (body[1]? : Option Byte) with
  | some 1 => 10
  | some 2 =>
    match (body[4]? : Option Byte) with
    | some c => if inRange c.toNat 1 24 then 8 + 2 * c.toNat else 6
    | none => 6
  | some 3 =>
    match (body[4]? : Option Byte) with
    | some c => if inRange c.toNat 1 22 then 9 else 6
    | none => 9
  | _ => 6

/-- The reservation of a BROADCAST: 7, or the 6 of BAD-BODY for a count out of range. R155 is followed here over R121 and the
table of R164, which give 7 for the kind; a body too short to hold its count reserves 7 (the model's choice, log entry 12). -/
def broadcastReservation (body : List Byte) : Nat :=
  match (body[3]? : Option Byte) with
  | some c => if inRange c.toNat 1 22 then 7 else 6
  | none => 7

/-- The reservation of a request: the length of the largest reply it can receive (R155, R164). A count out of range in the
descriptor group of a NODE ADD or NODE SET leaves its 7: the operation and count of R155 are those of a DEMAND or BROADCAST (the
model's choice, log entry 12). -/
def Request.reservation (r : Request) : Nat :=
  match requestKindOf r.kind with
  | none => 7
  | some .status => 23
  | some .reset => 6
  | some .lineSet | some .lineEnable | some .lineDisable => 7
  | some .lineInfo => 27
  | some .nodeAdd | some .nodeSet | some .nodeRemove | some .nodeEnable | some .nodeDisable => 7
  | some .nodeInfo => 32
  | some .readSnapshot => 61
  | some .demand => demandReservation r.body
  | some .broadcast => broadcastReservation r.body
  | some .cancel => 7
  | some .scanStart => Config.scanReservation
  | some .scanAbort => 7
  | some .storeSave => Config.saveReservation
  | some .storeErase => Config.eraseReservation

/-! ## Field characters and frames (R49, R167) -/

/-- The 11 bits of a field character in the order they are sent, true for mark: the start bit, the data bits least significant
first, the mark bit, the stop bit (R49). -/
def characterBits (data : Byte) (mark : Bool) : List Bool :=
  [false] ++ (List.range 8).map (fun k => data.getLsbD k) ++ [mark, true]

/-- The character of 11 sampled bits: its data byte, its mark bit, and whether its stop bit is at mark, which are the operands
of FIELD_CHARACTER_RECEIVED. Bits without the start bit are no character (R49, R50). -/
def sampledCharacter : List Bool → Option (Byte × Bool × Bool)
  | [false, b0, b1, b2, b3, b4, b5, b6, b7, mark, stop] => some (BitVec.ofBoolListLE [b0, b1, b2, b3, b4, b5, b6, b7], mark, stop)
  | _ => none

/-- The KIND of a request frame without the repeat flag (R167). -/
def Operation.fieldKind : Operation → Byte
  | .ping => 0x01
  | .read _ _ => 0x02
  | .write _ _ _ => 0x03

/-- The payload of a request frame (R167). -/
def Operation.payload : Operation → List Byte
  | .ping => []
  | .read start count => halfBytes start ++ [count]
  | .write start count data => halfBytes start ++ [count] ++ data

/-- The request frame of an attempt: the repeat flag 0x40 on every attempt after the first (R28, R167). -/
def Transaction.frame (t : Transaction) : List Byte :=
  let kind := if t.made ≤ 1 then t.operation.fieldKind else t.operation.fieldKind + 0x40
  withCrc (t.target :: kind :: t.sequence :: byteOf t.operation.payload.length :: t.operation.payload)

/-- The KIND of the response that answers an operation with OK (R35, R167). -/
def Operation.answerKind : Operation → Byte
  | .ping => 0x81
  | .read _ _ => 0x82
  | .write _ _ _ => 0x83

/-- The payload length that the OK response of an operation must have (R35). -/
def Operation.answerLength : Operation → Nat
  | .ping => 2
  | .read _ count => 2 * count.toNat
  | .write _ _ _ => 0

/-- The KIND of an EXCEPTION response (R167). -/
def exceptionKind : Byte := 0x8F

/-- What an open frame is once a character has been added to it (R54). -/
inductive Assembly where
  /-- More characters are to come. -/
  | growing (bytes : List Byte)
  /-- The frame holds 6 + LEN characters. -/
  | complete (bytes : List Byte)
  /-- Its LEN character is greater than 48. -/
  | broken
deriving DecidableEq, Repr

/-- An open frame takes its next character (R54). -/
def assemble (bytes : List Byte) (b : Byte) : Assembly :=
  let now := bytes ++ [b]
  match now with
  | _ :: _ :: _ :: len :: _ =>
    if Config.fieldPayloadMax < len.toNat then .broken
    else if now.length = 6 + len.toNat then .complete now
    else .growing now
  | _ => .growing now

/-- What the checks of R35 say of a complete candidate response. -/
inductive CandidateVerdict where
  /-- The attempt ends with this outcome: OK, EXCEPTION or CORRUPT. -/
  | ends (o : FieldOutcome)
  /-- Another sequence number: the frame is stray (R36). -/
  | stray
deriving DecidableEq, Repr

/-- Checks 3 to 5 of R35 on the KIND and the payload of a frame with a good CRC and the right sequence number. -/
def judgeAnswer (op : Operation) (kind : Byte) (payload : List Byte) : FieldOutcome :=
  if kind = op.answerKind then
    if payload.length = op.answerLength then .ok payload else .corrupt
  else if kind = exceptionKind then
    match payload with
    | [reason] => if reason = 0 then .corrupt else .exception reason
    | _ => .corrupt
  else .corrupt

/-- The checks of R35, in their order, on a complete candidate response. -/
def judge (t : Transaction) (bytes : List Byte) : CandidateVerdict :=
  if withCrc (bytes.take (bytes.length - 2)) = bytes then
    match bytes with
    | _ :: kind :: seq :: _ :: rest =>
      if seq = t.sequence then .ends (judgeAnswer t.operation kind (rest.take (rest.length - 2)))
      else .stray
    | _ => .ends .corrupt
  else .ends .corrupt

end Sys2Proof.Machine
end

