-- ==== Sys2Proof/Machine/Ops.lean ====
section
/-! DEFINITION. The operations every command shares: lines, entries, the outbound queue with its reservations (R153, R158),
the pending notice list and its admission walk (R97 to R100), the tag registry (R157), and the taking of a request (R154). -/

namespace Sys2Proof.Machine

/-! ## Places of the state -/

/-- The line with this name. -/
def State.line (s : State) : LineId → Line
  | .a => s.lineA
  | .b => s.lineB

/-- The state with one line replaced. -/
def State.setLine (s : State) (l : LineId) (x : Line) : State :=
  match l with
  | .a => { s with lineA := x }
  | .b => { s with lineB := x }

/-- The state with one line changed. -/
def State.updLine (s : State) (l : LineId) (f : Line → Line) : State := s.setLine l (f (s.line l))

/-- The node entry at an index, if it is in use (R1). -/
def State.node (s : State) (i : Index) : Option Node := s.nodes.get i

/-- The state with one node entry replaced. -/
def State.setNode (s : State) (i : Index) (n : Option Node) : State := { s with nodes := s.nodes.set i.val n i.isLt }

/-- What the Snapshot Table holds for an index (R91). -/
def State.snapshot (s : State) (i : Index) : Option Snapshot := s.snapshots.get i

/-- The state with one snapshot replaced. -/
def State.setSnapshot (s : State) (i : Index) (x : Option Snapshot) : State :=
  { s with snapshots := s.snapshots.set i.val x i.isLt }

/-- The request slot with this name. -/
def State.slot (s : State) : SlotId → RequestSlot
  | .s0 => s.slot0
  | .s1 => s.slot1

/-- The state with one request slot replaced. -/
def State.setSlot (s : State) (id : SlotId) (x : RequestSlot) : State :=
  match id with
  | .s0 => { s with slot0 := x }
  | .s1 => { s with slot1 := x }

/-- The image slot with this name (R134). -/
def State.storeSlot (s : State) : SlotId → StoreSlot
  | .s0 => s.storeSlot0
  | .s1 => s.storeSlot1

/-- The state with one image slot replaced. -/
def State.setStoreSlot (s : State) (id : SlotId) (x : StoreSlot) : State :=
  match id with
  | .s0 => { s with storeSlot0 := x }
  | .s1 => { s with storeSlot1 := x }

/-- An entry in a live state: in use and not REMOVING (R5, R7). -/
def State.liveNode (s : State) (i : Index) : Option Node :=
  match s.node i with
  | some n => if n.state = .removing then none else some n
  | none => none

/-- The 32 indices, lowest first. -/
def allIndices : List Index := List.finRange 32

/-! ## Messages (R162, R165) -/

/-- The KIND byte of a notice (R165). -/
def Notice.kind : Notice → Byte
  | .ready _ _ _ => 0xF0
  | .nodeState _ _ _ _ => 0xF1
  | .change _ _ _ => 0xF2
  | .lineState _ _ _ => 0xF3
  | .linkError _ => 0xF4

/-- The body of a notice (R165). -/
def Notice.body : Notice → List Byte
  | .ready cause generation strap => cause.code :: wordBytes generation ++ [strap.setWidth 8]
  | .nodeState index address line state => [byteOf index, address, lineCode line] ++ state.bytes
  | .change index address update => [byteOf index, address] ++ halfBytes update
  | .lineState line state cause => [lineCode line, state.code, cause.code]
  | .linkError count => [count]

/-- The KIND byte of a message. -/
def Message.kind : Message → Byte
  | .reply r => r.kind
  | .notice n => n.kind

/-- The TAG byte of a message: 0 in a notice (R162). -/
def Message.tag : Message → Byte
  | .reply r => r.tag
  | .notice _ => 0

/-- The body of a message: a reply's begins with its status (R162). -/
def Message.body : Message → List Byte
  | .reply r => r.status.code :: r.data
  | .notice n => n.body

/-- The length of a message in the outbound queue, LEN and CRC included (R162). -/
def Message.length (m : Message) : Nat := 5 + m.body.length

/-- The bytes of a message as they are read (R162). -/
def Message.bytes (m : Message) : List Byte := withCrc (byteOf m.length :: m.kind :: m.tag :: m.body)

/-- The subject of a notice; replies and READY have none (R96). -/
def Message.subject : Message → Option Subject
  | .notice (.nodeState i _ _ _) => some (.nodeState i)
  | .notice (.change i _ _) => some (.change i)
  | .notice (.lineState l _ _) => some (.lineState l)
  | .notice (.linkError _) => some .linkError
  | .notice (.ready _ _ _) => none
  | .reply _ => none

/-! ## The outbound queue (R153) -/

/-- The bytes occupied in the outbound queue. -/
def State.occupied (s : State) : Nat := (s.outbound.map Message.length).sum

/-- Free space: 2048 minus occupied minus the reservation total. -/
def State.freeSpace (s : State) : Nat := Config.outboundCapacity - s.occupied - s.reserved

/-- ATTN# is asserted while the queue holds a message, and released while a reset is in progress (R152). -/
def State.attention (s : State) : Bool := s.resetting.isNone && !s.outbound.isEmpty

/-- The target address: 0x3A plus the strap value (R145). -/
def State.targetAddress (s : State) : BitVec 7 := Config.targetBase + s.strap.setWidth 7

/-! ## Notices (R97 to R100) -/

/-- The length of the notice of a subject (R96). -/
def Subject.length : Subject → Nat
  | .nodeState _ => 9
  | .change _ => 9
  | .lineState _ => 8
  | .linkError => 6

/-- The notice of a subject, built from its state now (R100). A free or REMOVING index has none: no notice reports it
(R100, R162, log entry 11). -/
def State.buildNotice (s : State) : Subject → Option Notice
  | .nodeState i => (s.liveNode i).map fun n => .nodeState i n.config.address n.config.line n.state
  | .change i => (s.liveNode i).map fun n => .change i n.config.address (((s.snapshot i).map Snapshot.update).getD 0)
  | .lineState l => some (.lineState l (s.line l).state (s.line l).faultCause)
  | .linkError => some (.linkError s.linkErrors)

/-- The outbound queue holds a notice of this subject and kind. -/
def State.noticeQueued (s : State) (sub : Subject) : Bool := s.outbound.any fun m => m.subject = some sub

/-- A subject is eligible when no notice of it is in the queue (R98), and it can be reported at all (R100). -/
def State.eligible (s : State) (sub : Subject) : Bool := !s.noticeQueued sub && (s.buildNotice sub).isSome

/-- A notice is admitted: built, appended, and the link error count returns to 0 when it is the one reported (R99, R101). -/
def State.admitNotice (s : State) (sub : Subject) : State :=
  match s.buildNotice sub with
  | none => s
  | some n =>
    { s with
      outbound := s.outbound ++ [.notice n]
      linkErrors := if sub = .linkError then 0 else s.linkErrors }

/-- A subject is marked: merged, admitted at once, or put at the tail of the pending notice list (R97). -/
def State.mark (s : State) (sub : Subject) : State :=
  if sub ∈ s.notices then s
  else if s.notices = [] ∧ s.eligible sub = true ∧ sub.length ≤ s.freeSpace then s.admitNotice sub
  else { s with notices := s.notices ++ [sub] }

/-- The admission walk over the entries still to come, with the entries passed so far (R98). -/
def walkFrom : List Subject → List Subject → State → State
  | [], passed, s => { s with notices := passed }
  | sub :: rest, passed, s =>
    if s.eligible sub then
      if sub.length ≤ s.freeSpace then walkFrom rest passed (s.admitNotice sub)
      else { s with notices := passed ++ sub :: rest }
    else walkFrom rest (passed ++ [sub]) s

/-- The admission walk (R98). -/
def State.walk (s : State) : State := walkFrom s.notices [] s

/-- The NODE STATE and CHANGE entries of an index are withdrawn, and the walk runs (R103). It runs also where no entry was
there to withdraw: R103 and step 5 of R13 let it run either way, R99 names it only for entries withdrawn (the model's choice,
log entry 27). -/
def State.withdraw (s : State) (i : Index) : State :=
  ({ s with notices := s.notices.filter fun sub => sub ≠ Subject.nodeState i && sub ≠ Subject.change i }).walk

/-- A request frame is rejected: it is counted and LINK ERROR is marked (R101). -/
def State.rejectFrame (s : State) : State := ({ s with linkErrors := countLinkError s.linkErrors }).mark .linkError

/-! ## Replies and the tag registry (R157, R158) -/

/-- A reply is queued under its reservation; a shorter one returns the rest and starts the walk (R158). -/
def State.queueReply (s : State) (reservation : Nat) (r : Reply) : State :=
  let s' := { s with reserved := s.reserved - reservation, outbound := s.outbound ++ [.reply r] }
  if (Message.reply r).length < reservation then s'.walk else s'

/-- The reply of a request just taken, under the request's own reservation (R156). -/
def State.answer (s : State) (rq : Request) (status : Status) (data : List Byte) : State :=
  s.queueReply rq.reservation { kind := rq.kind + 0x80, tag := rq.tag, status := status, data := data }

/-- A tag joins the registry (R157). -/
def State.addTag (s : State) (t : Byte) : State := { s with tags := s.tags ++ [t] }

/-- A tag leaves the registry (R157). -/
def State.dropTag (s : State) (t : Byte) : State := { s with tags := s.tags.filter (· ≠ t) }

/-- The deferred reply of a queued or ended demand or broadcast: a DEMAND's carries index, operation and data, a
BROADCAST's carries the line (R113, R116, R117, R118). -/
def demandReply (l : LineId) (tag : Byte) (node : Option Index) (op : Operation) (status : Status) (data : List Byte) :
    Reply :=
  match node with
  | some i => { kind := RequestKind.demand.replyKind, tag := tag, status := status, data := [byteOf i, op.code] ++ data }
  | none => { kind := RequestKind.broadcast.replyKind, tag := tag, status := status, data := [lineCode l] }

/-- The reply of a demand queue entry that leaves without having run (R117, R118, R119). -/
def State.replyEntry (s : State) (l : LineId) (status : Status) (e : DemandEntry) : State :=
  (s.dropTag e.tag).queueReply e.reserved (demandReply l e.tag e.node e.operation status [])

/-! ## Configuration changes (R141) -/

/-- A SAVE job is in flight. -/
def State.saving (s : State) : Bool :=
  match s.storeJob with
  | some (.save _ _ _ _ _) => true
  | _ => false

/-- A configuration change is reported: the flag is set, and the indicator too while a SAVE job is present (R141). -/
def State.reportChange (s : State) : State :=
  { s with configChanged := true, changedAfterCapture := s.changedAfterCapture || s.saving }

/-! ## Taking a request (R154, R156) -/

/-- The request in the oldest FULL slot. -/
def State.oldestRequest (s : State) : Option (SlotId × Request) :=
  match s.slotOrder with
  | [] => none
  | id :: _ =>
    match s.slot id with
    | .full bytes => (requestOf bytes).map fun rq => (id, rq)
    | _ => none

/-- The oldest FULL slot holds a request of this kind, its reservation fits, and no reset is in progress. -/
abbrev State.ready (s : State) (k : Option RequestKind) (id : SlotId) (rq : Request) : Prop :=
  s.resetting = none ∧ s.oldestRequest = some (id, rq) ∧ requestKindOf rq.kind = k ∧ rq.reservation ≤ s.freeSpace

/-- A request leaves its slot and its reservation is made (R154). -/
def State.accept (s : State) (id : SlotId) (rq : Request) : State :=
  { s.setSlot id .free with slotOrder := s.slotOrder.tail, reserved := s.reserved + rq.reservation }

/-- The Request Handler looks at the oldest FULL slot for a request of kind `k` (`none`: an unknown kind). If it is there
and its reservation fits, it is taken and its owner's rule runs whole; otherwise it waits (R154, log entry 1). -/
def State.take (s : State) (k : Option RequestKind) (owner : Request → State → State) : State :=
  match s.resetting, s.oldestRequest with
  | none, some (id, rq) =>
    if requestKindOf rq.kind = k ∧ rq.reservation ≤ s.freeSpace then owner rq (s.accept id rq) else s
  | _, _ => s

/-- An event of a part that is out of reset; during a reset nothing but the reset itself happens (R161, log entry 15). -/
def State.awake (s : State) (f : State → State) : State :=
  match s.resetting with
  | none => f s
  | some _ => s

end Sys2Proof.Machine
end

