-- ==== Sys2Proof/Machine/NodeTable.lean ====
section
/-! DEFINITION. The node table and the schedule of its nodes: timers and the due list (R73 to R80), purges (R117), and
outcomes applied to nodes (R16 to R21). -/

namespace Sys2Proof.Machine

/-! ## Timers and the due list -/

/-- An entry joins the due list: behind every entry due earlier, or due at the same time with a lower index (R76). A poll put
back at the head in this same millisecond (R80) is no exception: an entry with its due time and a lower index joins ahead of it
(the model's choice, log entry 29). -/
def joinDue : List DueEntry → DueEntry → List DueEntry
  | [], e => [e]
  | d :: rest, e =>
    if later e.due d.due || (e.due = d.due && d.index.val ≤ e.index.val) then d :: joinDue rest e else e :: d :: rest

/-- A poll timer is set to a due time, or stopped. -/
def Line.setPollTimer (x : Line) (i : Index) (due : Option Word) : Line :=
  { x with pollTimers := x.pollTimers.set i.val due i.isLt }

/-- A recovery timer is set to a due time, or stopped. -/
def Line.setRecoveryTimer (x : Line) (i : Index) (due : Option Word) : Line :=
  { x with recoveryTimers := x.recoveryTimers.set i.val due i.isLt }

/-- A node joins its line's due list. -/
def Line.joinDueList (x : Line) (e : DueEntry) : Line := { x with dueList := joinDue x.dueList e }

/-- Both timers of a node stop, and it leaves the due list (R77, R87). -/
def Line.unschedule (x : Line) (i : Index) : Line :=
  let x := (x.setPollTimer i none).setRecoveryTimer i none
  { x with dueList := x.dueList.filter fun d => d.index ≠ i }

/-- A node is made due at once: its poll timer, armed with the present part time, expires in the same moment (R74). -/
def State.makeDue (s : State) (l : LineId) (i : Index) : State :=
  s.updLine l fun x => x.joinDueList { index := i, kind := .poll, due := s.partTime }

/-- The recovery timer is armed for one recovery interval of the line (R75). -/
def State.armRecovery (s : State) (l : LineId) (i : Index) : State :=
  s.updLine l fun x => x.setRecoveryTimer i (some (s.partTime + x.settings.recovery.setWidth 32))

/-! ## Purges and flushes (R117, R118) -/

/-- Every queued demand for an index is removed, and a reply with the status is queued for each, in queue order (R117). -/
def State.purge (s : State) (l : LineId) (i : Index) (status : Status) : State :=
  let leaving := (s.line l).demandQueue.filter fun e => e.node = some i
  let s := s.updLine l fun x => { x with demandQueue := x.demandQueue.filter fun e => e.node ≠ some i }
  leaving.foldl (fun s e => s.replyEntry l status e) s

/-- Every entry of a line's demand queue is removed, and a reply with the status is queued for each (R118). -/
def State.flush (s : State) (l : LineId) (status : Status) : State :=
  let leaving := (s.line l).demandQueue
  let s := s.updLine l fun x => { x with demandQueue := [] }
  leaving.foldl (fun s e => s.replyEntry l status e) s

/-! ## The end of a poll (R79, R80) -/

/-- The poll timer is re-armed from the poll's due time, or re-based on the end time and counted late (R79). -/
def State.rearmPoll (s : State) (l : LineId) (i : Index) (due : Word) : State :=
  match s.node i with
  | none => s
  | some n =>
    let candidate := due + n.config.period.setWidth 32
    if later candidate s.partTime then s.updLine l fun x => x.setPollTimer i (some candidate)
    else
      (s.updLine l fun x => x.setPollTimer i (some (s.partTime + n.config.period.setWidth 32))).setNode i
        (some { n with counters := { n.counters with latePolls := countUp n.counters.latePolls } })

/-- A poll that ended LINE-OFF or LINE-FAULT returns to the head of the due list with its previous due time (R80). -/
def State.putBackPoll (s : State) (l : LineId) (i : Index) (due : Word) : State :=
  s.updLine l fun x => { x with dueList := { index := i, kind := .poll, due := due } :: x.dueList }

/-! ## Outcomes (R16 to R21) -/

/-- The entry after an OK outcome: ONLINE, count 0, good counted (R17, R20). -/
def Node.answeredOk (n : Node) : Node :=
  { n with state := .online, failures := 0, counters := { n.counters with good := countUp n.counters.good } }

/-- The entry after an EXCEPTION outcome: ONLINE, count 0, the reason kept, exceptions counted (R17, R20). -/
def Node.answeredException (n : Node) (reason : Byte) : Node :=
  { n with
    state := .online
    failures := 0
    lastException := reason
    counters := { n.counters with exceptions := countUp n.counters.exceptions } }

/-- The entry after a failed transaction below its failure limit (R18). -/
def Node.failedBelowLimit (n : Node) : Node :=
  { n with failures := n.failures + 1, state := if n.state = .online then .suspect else n.state }

/-- The entry into OFFLINE: its five steps in order (R18). -/
def State.goOffline (s : State) (l : LineId) (i : Index) (n : Node) : State :=
  let s := s.setNode i (some { n with failures := n.failures + 1, state := .offline })
  let s := s.updLine l fun x => x.unschedule i
  let s := s.purge l i .nodeDown
  let s := s.mark (.nodeState i)
  s.armRecovery l i

/-- An applied outcome of a poll or demand (R17, R18, R19). -/
def State.applyService (s : State) (l : LineId) (i : Index) (n : Node) : FieldOutcome → State
  | .ok _ =>
    let s := s.setNode i (some n.answeredOk)
    if n.state = .new then s.mark (.nodeState i) else s
  | .exception reason =>
    let s := s.setNode i (some (n.answeredException reason))
    if n.state = .new then s.mark (.nodeState i) else s
  | .timeout | .corrupt =>
    if n.failures + 1 < n.config.limit.toNat then s.setNode i (some n.failedBelowLimit) else s.goOffline l i n
  | .collision | .lineOff | .lineFault => s.setNode i (some n)

/-- A recovery probe that was answered: ONLINE, NODE STATE marked, the recovery timer stopped, the poll due at once (R20). -/
def State.comeBack (s : State) (l : LineId) (i : Index) (n : Node) : State :=
  let s := s.setNode i (some n)
  let s := s.mark (.nodeState i)
  let s := s.updLine l fun x => x.setRecoveryTimer i none
  if n.config.descriptor.isSome then s.makeDue l i else s

/-- An applied outcome of a recovery probe (R20). -/
def State.applyProbe (s : State) (l : LineId) (i : Index) (n : Node) : FieldOutcome → State
  | .ok _ => s.comeBack l i n.answeredOk
  | .exception reason => s.comeBack l i (n.answeredException reason)
  | .timeout | .corrupt | .collision | .lineOff | .lineFault => (s.setNode i (some n)).armRecovery l i

/-- The outcome of a transaction that refers to a node reaches the Node Table, which applies or drops it; the mark then
returns to NONE, and a REMOVING entry is freed (R14, R16, R21). -/
def State.applyOutcome (s : State) (l : LineId) (i : Index) (probe : Bool) (o : FieldOutcome) : State :=
  match s.node i with
  | none => s
  | some n =>
    match n.mark with
    | .none => s
    | .detached => s.setNode i (if n.state = .removing then none else some { n with mark := .none })
    | .attached =>
      if probe then s.applyProbe l i { n with mark := .none } o else s.applyService l i { n with mark := .none } o

/-- The outcome of the node's transaction will be applied: its mark is ATTACHED (R4). -/
def State.attached (s : State) (i : Index) : Bool :=
  match s.node i with
  | some n => n.mark = .attached
  | none => false

/-- An attempt that ended TIMEOUT or CORRUPT is counted while the mark is ATTACHED (R3, R39). -/
def State.countAttempt (s : State) (i : Index) (o : FieldOutcome) : State :=
  match s.node i with
  | none => s
  | some n =>
    if n.mark = .attached then
      match o with
      | .timeout => s.setNode i (some { n with counters := { n.counters with timeouts := countUp n.counters.timeouts } })
      | .corrupt => s.setNode i (some { n with counters := { n.counters with corrupt := countUp n.counters.corrupt } })
      | .ok _ | .exception _ | .collision | .lineOff | .lineFault => s
    else s

/-! ## Snapshots (R92) -/

/-- The Snapshot Table receives the payload of an applied poll that ended OK (R92). -/
def State.storeSnapshot (s : State) (i : Index) (payload : List Byte) : State :=
  let old := (s.snapshot i).getD {}
  let changed := (old.record.map SnapshotRecord.payload) ≠ some payload
  let s := s.setSnapshot i (some
    { update := if changed then old.update + 1 else old.update
      record := some { payload := payload, captured := s.partTime, agedOut := false } })
  if changed ∧ ((s.node i).map fun n => n.config.notify) = some true then s.mark (.change i) else s

end Sys2Proof.Machine
end

