-- ==== Sys2Proof/Machine/Scheduler.lean ====
section
/-! DEFINITION. The Line Scheduler: the scan job (R123 to R130), the start of a transaction (R83), and the arbiter (R82). -/

namespace Sys2Proof.Machine

/-! ## The scan job -/

/-- An entry in use, in any state, holds this address on this line (R126, R6). -/
def State.addressHeld (s : State) (l : LineId) (address : Byte) : Bool :=
  allIndices.any fun i =>
    match s.node i with
    | some n => n.config.line = l && n.config.address = address
    | none => false

/-- The bytes of a found list (R130). -/
def foundBytes (found : List Found) : List Byte := found.flatMap fun f => f.address :: halfBytes f.nodeType

/-- The deferred reply of a scan job (R130). -/
def ScanJob.reply (j : ScanJob) (l : LineId) (status : Status) : Reply :=
  { kind := RequestKind.scanStart.replyKind
    tag := j.tag
    status := status
    data := [lineCode l, j.lastProbed, byteOf j.found.length] ++ foundBytes j.found }

/-- A line's scan job, if it has one, ends: its reply is queued, its tag leaves the registry, and it is discarded (R129). -/
def State.endScan (s : State) (l : LineId) (status : Status) : State :=
  match (s.line l).scan with
  | none => s
  | some j =>
    let s := s.updLine l fun x => { x with scan := none }
    (s.dropTag j.tag).queueReply Config.scanReservation (j.reply l status)

/-- The node type that a PING ANSWER carried (R128). -/
def nodeTypeOf : List Byte → Half
  | [high, low] => halfOf high low
  | _ => 0

/-- A probe's address is settled: it is the last address probed, and the next address is one higher (R128). -/
def ScanJob.settle (j : ScanJob) (address : Byte) (found : List Found) : ScanJob :=
  { j with probe := none, found := j.found ++ found, lastProbed := address, next := address + 1 }

/-- The job after the outcome of its probe has been recorded (R128). -/
def ScanJob.record (j : ScanJob) (address : Byte) : FieldOutcome → ScanJob
  | .ok content => j.settle address [{ address := address, nodeType := nodeTypeOf content }]
  | .exception _ => j.settle address [{ address := address, nodeType := 0 }]
  | .timeout | .corrupt => j.settle address []
  | .collision | .lineOff | .lineFault => { j with probe := none }

/-- How a job ends at a probe's delivery, if it does (R129, the four tests). -/
def ScanJob.ending (j : ScanJob) : Option Status :=
  if j.abort then some .aborted
  else if Config.foundListCapacity ≤ j.found.length then some .listFull
  else if j.last.toNat < j.next.toNat then some .ok
  else none

/-- The outcome of a scan probe is delivered to the scan job. An outcome LINE-OFF or LINE-FAULT is followed by no test:
the line's own step ends the job (R128, R129). -/
def State.scanResult (s : State) (l : LineId) (address : Byte) (o : FieldOutcome) : State :=
  match (s.line l).scan with
  | none => s
  | some j =>
    let j := j.record address o
    let s := s.updLine l fun x => { x with scan := some j }
    if o = .lineOff ∨ o = .lineFault then s
    else
      match j.ending with
      | some status => s.endScan l status
      | none => s

/-- The first address from `a` on that is above `last` or not in use; `n` bounds the addresses skipped (R126). -/
def skipHeld (held : Byte → Bool) (last : Byte) : Nat → Byte → Byte
  | 0, a => a
  | n + 1, a => if a.toNat ≤ last.toNat && held a then skipHeld held last n (a + 1) else a

/-! ## The start of a transaction -/

/-- An attempt starts: the line enters SENDING with the request frame, and any open frame is closed (R29, R54). -/
def Line.startAttempt (x : Line) (t : Transaction) : Line :=
  { x with
    state := .sending
    transaction := some t
    openFrame := none
    guardKind := none
    frame := t.frame
    sent := 0
    echoed := 0
    timer := .stopped
    elapsed := false }

/-- The streak after a demand or broadcast has started (R84). -/
def streakUp (n : Nat) : Nat := if n < Config.streakLimit then n + 1 else n

/-- A transaction that refers to a node starts: its record takes the entry's next sequence number, which advances, and the
mark becomes ATTACHED (R2, R4, R26, R83). -/
def State.startOnNode (s : State) (l : LineId) (i : Index) (n : Node) (kind : TransactionKind) (op : Operation)
    (allowed : Nat) (leave : Line → Line) : State :=
  let t : Transaction :=
    { kind := kind, target := n.config.address, operation := op, sequence := n.nextSequence, allowed := allowed, made := 1,
      timeout := some n.config.timeout, last := none }
  (s.setNode i (some { n with nextSequence := n.nextSequence + 1, mark := .attached })).updLine l fun x =>
    (leave x).startAttempt t

/-- A broadcast or scan probe starts: its record takes the line sequence number, which advances (R27, R83). -/
def State.startOnLine (s : State) (l : LineId) (kind : TransactionKind) (target : Byte) (op : Operation)
    (timeout : Option Byte) (leave : Line → Line) : State :=
  s.updLine l fun x =>
    let t : Transaction :=
      { kind := kind, target := target, operation := op, sequence := x.sequence, allowed := 1, made := 1,
        timeout := timeout, last := none }
    { leave x with sequence := x.sequence + 1 }.startAttempt t

/-- The head of the demand queue starts (R83, R84, R112, R115). -/
def State.startDemand (s : State) (l : LineId) (e : DemandEntry) (rest : List DemandEntry) : State :=
  let leave := fun x : Line => { x with demandQueue := rest, streak := streakUp x.streak }
  match e.node with
  | none => s.startOnLine l (.broadcast e.tag e.reserved) 0 e.operation none leave
  | some i =>
    match s.node i with
    | none => s
    | some n => s.startOnNode l i n (.demand i e.tag e.reserved) e.operation (1 + n.config.retries.toNat) leave

/-- The head of the due list starts, a poll with its descriptor's READ or a recovery probe with one PING (R26, R83, R84). -/
def State.startDue (s : State) (l : LineId) (e : DueEntry) (rest : List DueEntry) : State :=
  let leave := fun x : Line => { x with dueList := rest, streak := 0 }
  match s.node e.index with
  | none => s
  | some n =>
    match e.kind with
    | .recovery => s.startOnNode l e.index n (.recoveryProbe e.index) .ping 1 leave
    | .poll =>
      match n.config.descriptor with
      | none => s
      | some d =>
        s.startOnNode l e.index n (.poll e.index e.due) (.read d.start d.count) (1 + n.config.retries.toNat) leave

/-- The scan job is asked for its next probe: it skips the addresses in use, then ends OK or starts a probe (R126, R127). -/
def State.startScanProbe (s : State) (l : LineId) (j : ScanJob) : State :=
  let next := skipHeld (s.addressHeld l) j.last 256 j.next
  if j.last.toNat < next.toNat then
    (s.updLine l fun x => { x with scan := some { j with next := next } }).endScan l .ok
  else
    s.startOnLine l .scanProbe next .ping (some j.timeout) fun x =>
      { x with scan := some { j with next := next, probe := some next } }

/-- The arbiter's choice on an IDLE line (R82). -/
def State.choose (s : State) (l : LineId) : State :=
  match (s.line l).demandQueue, (s.line l).dueList, (s.line l).scan with
  | e :: rest, [], _ => s.startDemand l e rest
  | e :: rest, d :: due, _ => if (s.line l).streak = Config.streakLimit then s.startDue l d due else s.startDemand l e rest
  | [], d :: due, _ => s.startDue l d due
  | [], [], some j => s.startScanProbe l j
  | [], [], none => s

/-- The arbiter is asked: it chooses only while the line is IDLE (R81). -/
def State.askArbiter (s : State) (l : LineId) : State := if (s.line l).state = .idle then s.choose l else s

/-- A node is made due at once and, if its line is IDLE, the arbiter is asked (R74, R81, R87). -/
def State.makeDueNow (s : State) (l : LineId) (i : Index) : State := (s.makeDue l i).askArbiter l

/-- The poll or recovery timer of a node expires: the timer stops, the node joins the due list with the timer's due time,
and the arbiter is asked if the line is IDLE (R74, R75, R81). -/
def State.timerExpires (s : State) (l : LineId) (i : Index) (kind : DueKind) (due : Word) : State :=
  (s.updLine l fun x =>
    let x := match kind with
      | .poll => x.setPollTimer i none
      | .recovery => x.setRecoveryTimer i none
    x.joinDueList { index := i, kind := kind, due := due }).askArbiter l

end Sys2Proof.Machine
end

