-- ==== Sys2Proof/Machine/LineEngine.lean ====
section
/-! DEFINITION. The Line Engine: the delivery of outcomes (R44), the end of an attempt (R39), FAULT and OFF (R62, R65),
the echo check (R52), and the taking of received characters (R32 to R36, R54, R55). -/

namespace Sys2Proof.Machine

/-! ## Line states -/

/-- The driver enable output: asserted exactly in SENDING (R51). -/
def Line.driverEnable (x : Line) : Bool := x.state = .sending

/-- The 11 bits of the character that the transmit pin is sending, the mark bit at 1 on ADDR alone; no bits while the pin
rests at mark (R49). -/
def Line.transmitting (x : Line) : List Bool :=
  if x.state = .sending then
    match x.frame[x.sent]? with
    | some b => characterBits b (decide (x.sent = 0))
    | none => []
  else []

/-- Nothing is being sent and no response timer runs. -/
def Line.stopAttempt (x : Line) : Line :=
  { x with frame := [], sent := 0, echoed := 0, timer := .stopped, elapsed := false }

/-- The line enters GUARD (R58). An open frame stays open (R54). -/
def Line.enterGuard (x : Line) (kind : GuardKind) : Line :=
  { x.stopAttempt with state := .guard, guardKind := some kind }

/-- The line leaves for OFF or FAULT: the attempt, the guard and the open frame are gone (R62 step 1, R65 step 1). -/
def Line.leaveService (x : Line) (state : LineState) : Line :=
  { x.stopAttempt with state := state, guardKind := none, openFrame := none }

/-! ## The end of a transaction -/

/-- What follows the delivery of a poll's outcome when it was applied: the payload goes to the Snapshot Table, and the poll
is re-armed, put back, or neither when its node went OFFLINE (R44, R79, R80). -/
def State.afterPoll (s : State) (l : LineId) (i : Index) (due : Word) : FieldOutcome → State
  | .ok payload => (s.storeSnapshot i payload).rearmPoll l i due
  | .exception _ | .collision => s.rearmPoll l i due
  | .timeout | .corrupt => if (s.node i).map Node.state = some .offline then s else s.rearmPoll l i due
  | .lineOff | .lineFault => s.putBackPoll l i due

/-- The outcome of a transaction is delivered to its recipients, in their order (R44). -/
def State.deliver (s : State) (l : LineId) (t : Transaction) (o : FieldOutcome) : State :=
  match t.kind with
  | .poll i due => if s.attached i then (s.applyOutcome l i false o).afterPoll l i due o else s.applyOutcome l i false o
  | .recoveryProbe i => s.applyOutcome l i true o
  | .demand i tag reserved =>
    ((s.dropTag tag).queueReply reserved (demandReply l tag (some i) t.operation o.status o.data)).applyOutcome l i false o
  | .broadcast tag reserved => (s.dropTag tag).queueReply reserved (demandReply l tag none t.operation o.status [])
  | .scanProbe => s.scanResult l t.target o

/-- The node index a transaction refers to, if it refers to one (R25). -/
def TransactionKind.node : TransactionKind → Option Index
  | .poll i _ => some i
  | .demand i _ _ => some i
  | .recoveryProbe i => some i
  | .broadcast _ _ => none
  | .scanProbe => none

/-- The tag of the request that a transaction serves, for a demand or broadcast (R25). -/
def TransactionKind.tag : TransactionKind → Option Byte
  | .demand _ tag _ => some tag
  | .broadcast tag _ => some tag
  | .poll _ _ | .recoveryProbe _ | .scanProbe => none

/-- A retry follows: TIMEOUT, CORRUPT or COLLISION with attempts left (R39). -/
def Transaction.retries (t : Transaction) : FieldOutcome → Bool
  | .timeout | .corrupt | .collision => t.made < t.allowed
  | .ok _ | .exception _ | .lineOff | .lineFault => false

/-- Any outcome but COLLISION ends the run of consecutive collisions (R63). -/
def collisionRunAfter (run : Nat) : FieldOutcome → Nat
  | .collision => run
  | .ok _ | .exception _ | .timeout | .corrupt | .lineOff | .lineFault => 0

/-- An attempt ends and its line enters GUARD: the outcome is recorded, the node's attempt counters are applied, and either
a retry is to follow or the transaction ends and is delivered (R39, R43, R44, R58, R63, log entry 17). -/
def State.endAttempt (s : State) (l : LineId) (o : FieldOutcome) (kind : GuardKind) : State :=
  match (s.line l).transaction with
  | none => s
  | some t =>
    let retry := t.retries o
    let s := s.updLine l fun x =>
      { x.enterGuard kind with
        transaction := if retry then some { t with last := some o } else none
        collisionRun := collisionRunAfter x.collisionRun o }
    let s := match t.kind.node with
      | some i => s.countAttempt i o
      | none => s
    if retry then s else s.deliver l t o

/-- The line's change to OFF or FAULT ends the transaction in flight, if there is one (R41). -/
def State.endTransaction (s : State) (l : LineId) (o : FieldOutcome) : State :=
  match (s.line l).transaction with
  | none => s
  | some t => (s.updLine l fun x => { x with transaction := none }).deliver l t o

/-- Entry into FAULT, in the order of its steps (R62). -/
def State.enterFault (s : State) (l : LineId) (cause : FaultCause) : State :=
  let s := s.updLine l fun x => x.leaveService .fault
  let s := s.endTransaction l .lineFault
  let s := s.flush l .lineFault
  let s := s.endScan l .lineFault
  let s := s.updLine l fun x =>
    { x with
      faultCause := cause
      collisionRun := 0
      counters := { x.counters with faults := countUp x.counters.faults } }
  s.mark (.lineState l)

/-- Steps 1 to 6 of LINE DISABLE (R65). -/
def State.enterOff (s : State) (l : LineId) : State :=
  let s := s.updLine l fun x => { x.leaveService .off with enabled := false, reception := none }
  let s := s.endTransaction l .lineOff
  let s := s.flush l .lineOff
  let s := s.endScan l .lineOff
  let s := s.updLine l fun x => { x with collisionRun := 0 }
  s.mark (.lineState l)

/-! ## Sending (R29, R30, R52, R57) -/

/-- An echo check fails: the collision is counted, and the attempt ends COLLISION, or the fourth consecutive one takes the
line to FAULT (R42, R52, R63, log entry 20). -/
def State.echoFails (s : State) (l : LineId) : State :=
  let s := s.updLine l fun x =>
    { x with
      collisionRun := x.collisionRun + 1
      counters := { x.counters with collisions := countUp x.counters.collisions } }
  if Config.collisionLimit ≤ (s.line l).collisionRun then s.enterFault l .collisions
  else s.endAttempt l .collision .guardTime

/-- The target answers this kind of transaction: every kind but BROADCAST has a response timeout (R26, R30). -/
def TransactionKind.awaitsResponse : TransactionKind → Bool
  | .broadcast _ _ => false
  | .poll _ _ | .demand _ _ _ | .recoveryProbe _ | .scanProbe => true

/-- SENDING ends when the last stop bit has been sent and the last echo has passed: a broadcast ends OK and settles,
anything else waits for its response. The time spent on the last echo counts against the response timeout: if that has
already passed, the attempt ends TIMEOUT as the line would enter WAITING (R30, R31, R57, log entry 6). -/
def State.sendingEnds (s : State) (l : LineId) : State :=
  let x := s.line l
  if x.sent = x.frame.length ∧ x.echoed = x.frame.length then
    match x.transaction with
    | none => s
    | some t =>
      if t.kind.awaitsResponse then
        if x.elapsed then s.endAttempt l .timeout .guardTime
        else s.updLine l fun x => { x with state := .waiting, frame := [], sent := 0, echoed := 0, timer := .running }
      else s.endAttempt l (.ok []) .settle
  else s

/-- The echo of the next character to be checked ends (R52). `begun` is how many stop bits had been sent when its start bit
began: the echo of character k is the character begun while character k was being sent. -/
def State.takeEcho (s : State) (l : LineId) (begun : Nat) (data : Byte) (mark good : Bool) : State :=
  let x := s.line l
  if good ∧ begun = x.echoed ∧ x.echoed ≤ x.sent ∧ x.frame[x.echoed]? = some data ∧ mark = decide (x.echoed = 0) then
    (s.updLine l fun x => { x with echoed := x.echoed + 1 }).sendingEnds l
  else s.echoFails l

/-! ## Receiving (R32 to R36, R54, R55) -/

/-- A counter of the line is changed. -/
def State.countLine (s : State) (l : LineId) (f : LineCounters → LineCounters) : State :=
  s.updLine l fun x => { x with counters := f x.counters }

/-- One more stray frame (R68). -/
def LineCounters.addStray (c : LineCounters) : LineCounters := { c with stray := countUp c.stray }

/-- One more noise character (R68). -/
def LineCounters.addNoise (c : LineCounters) : LineCounters := { c with noise := countUp c.noise }

/-- One more framing error (R68). -/
def LineCounters.addFraming (c : LineCounters) : LineCounters := { c with framing := countUp c.framing }

/-- The open frame is replaced, or closed. -/
def State.setOpenFrame (s : State) (l : LineId) (frame : Option (List Byte)) : State :=
  s.updLine l fun x => { x with openFrame := frame }

/-- A good character with the mark bit opens a stray frame (R32, R55). -/
def State.openStray (s : State) (l : LineId) (data : Byte) : State :=
  (s.countLine l LineCounters.addStray).setOpenFrame l (some [data])

/-- A character taken outside an attempt's response: in IDLE and GUARD, and in WAITING for every frame but the candidate
response (R32, R54, R55). -/
def State.takeOutside (s : State) (l : LineId) (data : Byte) (mark good : Bool) : State :=
  if good then
    if mark then s.openStray l data
    else
      match (s.line l).openFrame with
      | none => s.countLine l LineCounters.addNoise
      | some bytes =>
        match assemble bytes data with
        | .growing now => s.setOpenFrame l (some now)
        | .complete _ => s.setOpenFrame l none
        | .broken => s.setOpenFrame l none
  else (s.countLine l LineCounters.addFraming).setOpenFrame l none

/-- A character taken in WAITING: the target's ADDR opens the candidate response, halts the response timer and takes the
line to RECEIVING (R33); anything else is outside the attempt (R32). -/
def State.takeWaiting (s : State) (l : LineId) (t : Transaction) (data : Byte) (mark good : Bool) : State :=
  if good ∧ mark ∧ data = t.target then
    s.updLine l fun x => { x with state := .receiving, timer := .halted, openFrame := some [data] }
  else s.takeOutside l data mark good

/-- A complete candidate response of another sequence number is discarded as stray: the line returns to WAITING and the
response timer resumes, or the attempt ends TIMEOUT if the timeout has already passed (R36). -/
def State.discardCandidate (s : State) (l : LineId) : State :=
  let s := (s.countLine l LineCounters.addStray).setOpenFrame l none
  if (s.line l).elapsed then s.endAttempt l .timeout .guardTime
  else s.updLine l fun x => { x with state := .waiting, timer := .running }

/-- The candidate response breaks, and the attempt ends CORRUPT (R34). -/
def State.breakCandidate (s : State) (l : LineId) : State := (s.setOpenFrame l none).endAttempt l .corrupt .guardTime

/-- A character taken in RECEIVING (R33, R34, R35). -/
def State.takeReceiving (s : State) (l : LineId) (t : Transaction) (data : Byte) (mark good : Bool) : State :=
  if good then
    if mark then (s.breakCandidate l).openStray l data
    else
      match assemble ((s.line l).openFrame.getD []) data with
      | .growing now => s.setOpenFrame l (some now)
      | .broken => s.breakCandidate l
      | .complete now =>
        match judge t now with
        | .stray => s.discardCandidate l
        | .ends o => (s.setOpenFrame l none).endAttempt l o .guardTime
  else (s.countLine l LineCounters.addFraming).breakCandidate l

/-- The receiver has finished a character: a good one is over, one with its stop bit at space is held until the pin returns
to mark. The level of the pin is not touched: it may have fallen again since the stop bit was sampled (R50, R60, log entries
8 and 9). -/
def Line.finishReception (x : Line) (good : Bool) : Line :=
  { x with reception := if good ∨ x.pinMark then none else some .held }

/-- A character ends on the receive pin and is taken by the state of the line and the moment at which it began
(R50, R52, R54, R55, log entry 8). -/
def State.takeCharacter (s : State) (l : LineId) (data : Byte) (mark good : Bool) : State :=
  let x := s.line l
  let s := s.updLine l fun x => x.finishReception good
  match x.state, x.reception, x.transaction with
  | .off, _, _ | .fault, _, _ => s
  | .sending, some .plain, _ => s
  | .sending, some (.echo begun), _ => s.takeEcho l begun data mark good
  | .sending, _, _ => s.takeEcho l x.echoed data mark good
  | _, some (.echo _), _ => s
  | .waiting, _, some t => s.takeWaiting l t data mark good
  | .receiving, _, some t => s.takeReceiving l t data mark good
  | _, _, _ => s.takeOutside l data mark good

end Sys2Proof.Machine
end

