-- ==== Sys2Proof/Machine/DemandRequests.lean ====
section
/-! DEFINITION. The demand requests: DEMAND (R109, R110), BROADCAST (R114) and CANCEL (R119). -/

namespace Sys2Proof.Machine

/-- The refusal that a line's state, or its full demand queue, gives a DEMAND or BROADCAST (R109 checks 4 and 5, R114). -/
def Line.refusal (x : Line) : Option Status :=
  match x.state with
  | .off => some .lineOff
  | .fault => some .lineFault
  | .idle | .sending | .waiting | .receiving | .guard =>
    if Config.demandQueueCapacity ≤ x.demandQueue.length then some .queueFull else none

/-- The refusal that a node's state gives a DEMAND (R22). -/
def Node.refusal (n : Node) : Option Status :=
  match n.state with
  | .offline => some .nodeDown
  | .disabled => some .nodeDisabled
  | .removing => some .noSuchNode
  | .new | .online | .suspect => none

/-- An accepted DEMAND or BROADCAST: its tag joins the registry, it joins the tail of the line's demand queue, and the
arbiter is asked if the line is IDLE (R110, R114). -/
def State.acceptDemand (s : State) (l : LineId) (e : DemandEntry) : State :=
  ((s.addTag e.tag).updLine l fun x => { x with demandQueue := x.demandQueue ++ [e] }).askArbiter l

/-- DEMAND after its body check (R109). -/
def State.demand (s : State) (rq : Request) (i : Index) (op : Operation) : State :=
  let data := [byteOf i, op.code]
  if rq.tag ∈ s.tags then s.answer rq .tagInUse data
  else
    match s.liveNode i with
    | none => s.answer rq .noSuchNode data
    | some n =>
      match n.refusal with
      | some status => s.answer rq status data
      | none =>
        match (s.line n.config.line).refusal with
        | some status => s.answer rq status data
        | none =>
          s.acceptDemand n.config.line { tag := rq.tag, node := some i, operation := op, reserved := rq.reservation }

/-- BROADCAST after its body check (R114). -/
def State.broadcast (s : State) (rq : Request) (l : LineId) (op : Operation) : State :=
  if rq.tag ∈ s.tags then s.answer rq .tagInUse [lineCode l]
  else
    match (s.line l).refusal with
    | some status => s.answer rq status [lineCode l]
    | none => s.acceptDemand l { tag := rq.tag, node := none, operation := op, reserved := rq.reservation }

/-- The demand or broadcast in flight on a line carries this tag (R119). -/
def Line.carries (x : Line) (tag : Byte) : Bool :=
  match x.transaction with
  | some t => t.kind.tag = some tag
  | none => false

/-- The entry of a line's demand queue that carries this tag (R119). -/
def Line.queued (x : Line) (tag : Byte) : Option DemandEntry := x.demandQueue.find? fun e => e.tag = tag

/-- A queued entry is cancelled: it leaves the queue, and its CANCELLED reply is queued (R119). -/
def State.cancelEntry (s : State) (l : LineId) (e : DemandEntry) : State :=
  (s.updLine l fun x => { x with demandQueue := x.demandQueue.eraseP fun q => q.tag = e.tag }).replyEntry l .cancelled e

/-- CANCEL after its body check (R119). -/
def State.cancel (s : State) (rq : Request) (target : Byte) : State :=
  match s.lineA.queued target, s.lineB.queued target with
  | some e, _ => (s.cancelEntry .a e).answer rq .ok [target]
  | none, some e => (s.cancelEntry .b e).answer rq .ok [target]
  | none, none =>
    if s.lineA.carries target || s.lineB.carries target then s.answer rq .tooLate [target]
    else s.answer rq .notFound [target]

/-- DEMAND. -/
def execDemand (s : State) : Host.Outcome State Fault Refusal :=
  .next (s.take (some .demand) fun rq s =>
    match demandBody rq.body with
    | none => s.answer rq .badBody []
    | some (i, op) => s.demand rq i op)

/-- BROADCAST. -/
def execBroadcast (s : State) : Host.Outcome State Fault Refusal :=
  .next (s.take (some .broadcast) fun rq s =>
    match broadcastBody rq.body with
    | none => s.answer rq .badBody []
    | some (l, op) => s.broadcast rq l op)

/-- CANCEL. -/
def execCancel (s : State) : Host.Outcome State Fault Refusal :=
  .next (s.take (some .cancel) fun rq s =>
    match cancelBody rq.body with
    | none => s.answer rq .badBody []
    | some target => s.cancel rq target)

end Sys2Proof.Machine
end

