-- ==== Sys2Proof/Machine/Store.lean ====
section
/-! DEFINITION. The configuration store: valid slots (R134), capture (R135), SAVE and ERASE jobs (R137 to R140), and the
store rows of the table. -/

namespace Sys2Proof.Machine

/-! ## Slots and images -/

/-- Every field of an image lies in its range, no two records name one index, and no two name one line and address (R134). -/
def Image.inRange (x : Image) : Bool :=
  x.settingsA.inRange && x.settingsB.inRange && x.nodes.all (fun r => r.config.inRange) &&
    decide (x.nodes.map NodeRecord.index).Nodup &&
    decide (x.nodes.map fun r => (r.config.line, r.config.address)).Nodup

/-- A slot is VALID (R134). -/
def StoreSlot.valid (x : StoreSlot) : Bool := x.mark && x.crcGood && decide (x.generation ≠ 0) && x.image.inRange

/-- The VALID slots, the lower generation first (R140). Two equal generations count slot 0 as the newer (R134,
log entry 21). -/
def State.validSlots (s : State) : List SlotId :=
  match s.storeSlot0.valid, s.storeSlot1.valid with
  | false, false => []
  | true, false => [.s0]
  | false, true => [.s1]
  | true, true => if s.storeSlot0.generation.toNat < s.storeSlot1.generation.toNat then [.s0, .s1] else [.s1, .s0]

/-- The slot of the newest image (R134). -/
def State.newestSlot (s : State) : Option SlotId := s.validSlots.getLast?

/-- The generation of the newest VALID slot, 0 if there is none. -/
def State.newestGeneration (s : State) : Word := (s.newestSlot.map fun id => (s.storeSlot id).generation).getD 0

/-- The target slot of a save: never the slot of the newest image (R137 step 4). -/
def State.saveTarget (s : State) : SlotId :=
  match s.validSlots with
  | [] => .s0
  | [.s0] => .s1
  | [.s1] => .s0
  | id :: _ => id

/-- The image of the configuration as it stands (R135). -/
def State.capture (s : State) : Image :=
  { settingsA := s.lineA.settings
    enabledA := s.lineA.enabled
    settingsB := s.lineB.settings
    enabledB := s.lineB.enabled
    nodes := allIndices.filterMap fun i =>
      (s.liveNode i).map fun n => { index := i, config := n.config, disabled := decide (n.state = .disabled) } }

/-! ## SAVE (R137 to R139) -/

/-- A SAVE job ends (R139). The generation is the one the reply carries. -/
def State.endSave (s : State) (tag : Byte) (generation : Word) (good : Bool) : State :=
  let s :=
    if good then { s with generation := generation, configChanged := s.configChanged && s.changedAfterCapture } else s
  let s := (s.dropTag tag).queueReply Config.saveReservation
    { kind := RequestKind.storeSave.replyKind
      tag := tag
      status := if good then .ok else .storeFailed
      data := wordBytes generation }
  { s with storeJob := none, changedAfterCapture := false }

/-- A phase of a store job begins: it has the next number (R138, R140, log entry 30). -/
def State.beginPhase (s : State) : State := { s with storePhases := s.storePhases + 1 }

/-- An accepted STORE SAVE (R137): the job, the capture, the target, the generation, and the start of the WRITE phase, which
clears the target's validity mark (R138). Without a higher generation the job ends at once with generation 0. -/
def State.startSave (s : State) (tag : Byte) : State :=
  let newest := s.newestGeneration
  let target := s.saveTarget
  let job : StoreJob := .save tag .write s.capture target (newest + 1)
  let s := { s.addTag tag with storeJob := some job, changedAfterCapture := false }
  if newest = 0xFFFFFFFF then s.endSave tag 0 false
  else (s.setStoreSlot target { s.storeSlot target with mark := false }).beginPhase

/-- The SAVE job in one of these places of its phases meets an event of its own phase; it is not reached by an event of another
job's, or of an earlier one of its own (R138, R142, log entry 30). -/
def State.inPhase (s : State) (number : Nat) (phases : List SavePhase) (f : Byte → Image → SlotId → Word → State) : State :=
  match s.storeJob with
  | some (.save tag p image target generation) =>
    if number = s.storePhases ∧ p ∈ phases then f tag image target generation else s
  | _ => s

/-- SAVE_WRITE_COMPLETION: the slot holds what was written, its mark still clear, and the job enters VERIFY (R138). -/
def execSaveWriteCompletion (s : State) (phase : Nat := 0) : Host.Outcome State Fault Refusal :=
  .next (s.awake fun s => s.inPhase phase [.write] fun tag image target generation =>
    State.beginPhase
      { s.setStoreSlot target { mark := false, crcGood := true, generation := generation, image := image } with
        storeJob := some (.save tag .readBack image target generation) })

/-- SAVE_WRITE_TIMER_EXPIRY: the write has failed (R138). -/
def execSaveWriteTimerExpiry (s : State) (phase : Nat := 0) : Host.Outcome State Fault Refusal :=
  .next (s.awake fun s => s.inPhase phase [.write] fun tag _ _ generation => s.endSave tag generation false)

/-- SAVE_VERIFY_READ_BACK: a difference fails the save; a match starts the write of the validity mark (R138). -/
def execSaveVerifyReadBack (equal : Bool) (s : State) (phase : Nat := 0) : Host.Outcome State Fault Refusal :=
  .next (s.awake fun s => s.inPhase phase [.readBack] fun tag image target generation =>
    if equal then { s with storeJob := some (.save tag .markWrite image target generation) }
    else s.endSave tag generation false)

/-- SAVE_MARK_WRITE_COMPLETION: the slot becomes VALID and the job ends OK (R138). -/
def execSaveMarkWriteCompletion (s : State) (phase : Nat := 0) : Host.Outcome State Fault Refusal :=
  .next (s.awake fun s => s.inPhase phase [.markWrite] fun tag _ target generation =>
    (s.setStoreSlot target { s.storeSlot target with mark := true }).endSave tag generation true)

/-- SAVE_VERIFY_TIMER_EXPIRY: the save has failed, during the read-back or during the mark write (R138). -/
def execSaveVerifyTimerExpiry (s : State) (phase : Nat := 0) : Host.Outcome State Fault Refusal :=
  .next (s.awake fun s => s.inPhase phase [.readBack, .markWrite] fun tag _ _ generation => s.endSave tag generation false)

/-! ## ERASE (R140) -/

/-- An ERASE job ends. -/
def State.endErase (s : State) (tag : Byte) (status : Status) : State :=
  let s := (s.dropTag tag).queueReply Config.eraseReservation
    { kind := RequestKind.storeErase.replyKind, tag := tag, status := status, data := [] }
  { s with storeJob := none }

/-- The invalidation of a slot starts: its mark is cleared, and if it holds the current generation that becomes 0. -/
def State.invalidate (s : State) (tag : Byte) (slot : SlotId) (rest : List SlotId) : State :=
  let x := s.storeSlot slot
  let held := decide (x.generation = s.generation)
  State.beginPhase
    { s.setStoreSlot slot { x with mark := false } with
      generation := if held then 0 else s.generation
      storeJob := some (.erase tag slot rest held) }

/-- The invalidations still to do: the next one starts, or the job ends OK. -/
def State.eraseNext (s : State) (tag : Byte) : List SlotId → State
  | [] => s.endErase tag .ok
  | slot :: rest => s.invalidate tag slot rest

/-- The ERASE job meets an event of the invalidation it is in; it is not reached by an event of another job's, or of an earlier one
of its own (R140, R142, log entry 30). -/
def State.inErase (s : State) (number : Nat) (f : Byte → SlotId → List SlotId → Bool → State) : State :=
  match s.storeJob with
  | some (.erase tag slot rest held) => if number = s.storePhases then f tag slot rest held else s
  | _ => s

/-- ERASE_INVALIDATION_COMPLETION: a mark that reads cleared goes on with the next slot; one that reads intact leaves the
slot VALID as it was, gives the current generation back, and fails the job (R140). -/
def execEraseInvalidationCompletion (cleared : Bool) (s : State) (phase : Nat := 0) : Host.Outcome State Fault Refusal :=
  .next (s.awake fun s => s.inErase phase fun tag slot rest held =>
    if cleared then s.eraseNext tag rest
    else
      let x := s.storeSlot slot
      ({ s.setStoreSlot slot { x with mark := true } with
        generation := if held then x.generation else s.generation }).endErase tag .storeFailed)

/-- ERASE_TIMER_EXPIRY: the invalidation has failed, the slot counts as INVALID, and the rest is not touched (R140). -/
def execEraseTimerExpiry (s : State) (phase : Nat := 0) : Host.Outcome State Fault Refusal :=
  .next (s.awake fun s => s.inErase phase fun tag _ _ _ => s.endErase tag .storeFailed)

end Sys2Proof.Machine
end

