-- ==== Sys2Proof/Machine/Reset.lean ====
section
/-! DEFINITION. The reset of the part: its three causes, what it ends, and how the part comes out of it (R161, R45, R144,
R143, R24, R89, R102). -/

namespace Sys2Proof.Machine

/-- A line while a reset is in progress: nothing in flight, the driver released, nothing received (R45, R161). -/
def Line.underReset (x : Line) : Line := { x.leaveService .off with transaction := none, reception := none }

/-- A reset begins: field transactions, store jobs and link transactions end without an outcome or a reply (R161).
The target slot of a store job keeps its cleared mark (R144). -/
def State.beginReset (s : State) (cause : ResetCause) : State :=
  { s with
    resetting := some cause
    lineA := s.lineA.underReset
    lineB := s.lineB.underReset
    storeJob := none
    link := .none
    slot0 := .free
    slot1 := .free
    slotOrder := []
    linkAck := false
    linkByte := 0xFF }

/-- A line right after a reset, with the settings and enabled flag of the image (R47, R143). The receive pin is an input. -/
def Line.afterReset (settings : LineSettings) (enabled pinMark : Bool) : Line :=
  { settings := settings, enabled := enabled, state := if enabled then .idle else .off, pinMark := pinMark }

/-- The node entry a record puts into use (R24, R143). -/
def NodeRecord.node (r : NodeRecord) : Node := { config := r.config, state := if r.disabled then .disabled else .new }

/-- The node table that an image loads; indices without a record are free (R24). -/
def Image.table (x : Image) : Vector (Option Node) 32 :=
  x.nodes.foldl (fun v r => v.set r.index.val (some r.node) r.index.isLt) (Vector.replicate 32 none)

/-- The snapshot table after a load: update number 0 and no record for every entry put into use (R91). -/
def Image.snapshotTable (x : Image) : Vector (Option Snapshot) 32 :=
  x.nodes.foldl (fun v r => v.set r.index.val (some {}) r.index.isLt) (Vector.replicate 32 none)

/-- The image that a reset loads: the newest VALID one, or the empty one (R143). -/
def State.loadedImage (s : State) : Image := (s.newestSlot.map fun id => (s.storeSlot id).image).getD Image.empty

/-- A NEW entry with a descriptor joins its line's due list (R89 step 3). -/
def State.makeDueIfNew (s : State) (i : Index) : State :=
  match s.node i with
  | some n => if n.state = .new ∧ n.config.descriptor.isSome then s.makeDue n.config.line i else s
  | none => s

/-- Every block at its reset value, the straps sampled, the newest image loaded, and READY queued (R161 steps 1 to 4). The count of store
phases goes on, so that what an ended job began reaches no later one (R142, log entry 30). -/
def State.loaded (s : State) (cause : ResetCause) (strap : BitVec 2) : State :=
  let image := s.loadedImage
  { State.reset with
    strap := strap
    outbound := [.notice (.ready cause s.newestGeneration strap)]
    nodes := image.table
    snapshots := image.snapshotTable
    lineA := Line.afterReset image.settingsA image.enabledA s.lineA.pinMark
    lineB := Line.afterReset image.settingsB image.enabledB s.lineB.pinMark
    storeSlot0 := s.storeSlot0
    storeSlot1 := s.storeSlot1
    generation := s.newestGeneration
    storePhases := s.storePhases
    pending := s.pending }

/-- The part comes out of reset, in the order of R161: every block at its reset value, the straps sampled, the newest image
loaded, READY queued, the NEW entries made due in index order (R89), and each IDLE line asking its arbiter, Line A first (log entry 26). -/
def State.comeOut (s : State) (cause : ResetCause) (strap : BitVec 2) : State :=
  ((allIndices.foldl State.makeDueIfNew (s.loaded cause strap)).askArbiter .a).askArbiter .b

/-- POWER_UP: a reset with cause POWER (R161). -/
def execPowerUp (s : State) : Host.Outcome State Fault Refusal := .next (s.beginReset .power)

/-- RST_PIN_LOW: a reset with cause PIN, but within a POWER reset (R161). -/
def execRstPinLow (s : State) : Host.Outcome State Fault Refusal :=
  .next (if s.resetting = some .power then s else s.beginReset .pin)

/-- RESET_COMPLETE: the reset condition has ended; the strap value is ADR1 * 2 + ADR0 (R145, R161). -/
def execResetComplete (adr1 adr0 : Bool) (s : State) : Host.Outcome State Fault Refusal :=
  .next (match s.resetting with
    | some cause => s.comeOut cause (BitVec.ofBool adr1 ++ BitVec.ofBool adr0)
    | none => s)

end Sys2Proof.Machine
end

