-- ==== Sys2Proof/Machine/HandlerRequests.lean ====
section
/-! DEFINITION. The requests that the Request Handler answers itself: STATUS (R159), RESET (R160), and a request of an
unknown kind (R156). -/

namespace Sys2Proof.Machine

/-- The number of entries in live states (R159). -/
def State.nodesInUse (s : State) : Nat := (allIndices.filter fun i => (s.liveNode i).isSome).length

/-- The body of a STATUS reply after its status (R159, R164). -/
def State.statusData (s : State) : List Byte :=
  wordBytes s.partTime ++ [s.lineA.state.code, s.lineB.state.code, byteOf s.nodesInUse] ++
    halfBytes (BitVec.ofNat 16 s.freeSpace) ++ halfBytes (BitVec.ofNat 16 s.reserved) ++ wordBytes s.generation ++
    [storeFlags s.storeJob.isSome s.configChanged, s.strap.setWidth 8]

/-- STATUS (R159). -/
def execStatus (s : State) : Host.Outcome State Fault Refusal :=
  .next (s.take (some .status) fun rq s =>
    match emptyBody rq.body with
    | none => s.answer rq .badBody []
    | some _ => s.answer rq .ok s.statusData)

/-- RESET: a good one gets no reply and starts a reset with cause REQUEST (R160). -/
def execReset (s : State) : Host.Outcome State Fault Refusal :=
  .next (s.take (some .reset) fun rq s =>
    match emptyBody rq.body with
    | none => s.answer rq .badBody []
    | some _ => s.beginReset .request)

/-- UNKNOWN_KIND: the reply has kind 0xFF and carries the kind received (R156, R162). -/
def execUnknownKind (s : State) : Host.Outcome State Fault Refusal :=
  .next (s.take none fun rq s =>
    s.queueReply rq.reservation { kind := unknownReplyKind, tag := rq.tag, status := .unknownKind, data := [rq.kind] })

end Sys2Proof.Machine
end

