-- ==== Sys2Proof/Machine/JobRequests.lean ====
section
/-! DEFINITION. The requests that start or end a job: SCAN START (R124, R125), SCAN ABORT (R131), STORE SAVE (R137) and
STORE ERASE (R140). -/

namespace Sys2Proof.Machine

/-- The scan job an accepted SCAN START creates (R123). -/
def ScanJob.create (tag first last timeout : Byte) : ScanJob :=
  { tag := tag, first := first, last := last, timeout := timeout, next := first, probe := none, lastProbed := 0,
    found := [], abort := false }

/-- SCAN START after its body check (R124, R125). -/
def State.scanStart (s : State) (rq : Request) (l : LineId) (first last timeout : Byte) : State :=
  if rq.tag ∈ s.tags then s.answer rq .tagInUse [lineCode l]
  else if (s.line l).state = .off then s.answer rq .lineOff [lineCode l]
  else if (s.line l).state = .fault then s.answer rq .lineFault [lineCode l]
  else if (s.line l).scan.isSome then s.answer rq .busy [lineCode l]
  else
    ((s.addTag rq.tag).updLine l fun x => { x with scan := some (ScanJob.create rq.tag first last timeout) }).askArbiter l

/-- SCAN ABORT after its body check (R131). -/
def State.scanAbort (s : State) (rq : Request) (l : LineId) : State :=
  match (s.line l).scan with
  | none => s.answer rq .noScan [lineCode l]
  | some j =>
    match j.probe with
    | none => (s.endScan l .aborted).answer rq .ok [lineCode l]
    | some _ => (s.updLine l fun x => { x with scan := some { j with abort := true } }).answer rq .ok [lineCode l]

/-- STORE SAVE after its body check (R137). -/
def State.storeSave (s : State) (rq : Request) : State :=
  if rq.tag ∈ s.tags then s.answer rq .tagInUse []
  else if s.storeJob.isSome then s.answer rq .busy []
  else s.startSave rq.tag

/-- STORE ERASE after its body check (R140). -/
def State.storeErase (s : State) (rq : Request) : State :=
  if rq.tag ∈ s.tags then s.answer rq .tagInUse []
  else if s.storeJob.isSome then s.answer rq .busy []
  else (s.addTag rq.tag).eraseNext rq.tag s.validSlots

/-- SCAN_START. -/
def execScanStart (s : State) : Host.Outcome State Fault Refusal :=
  .next (s.take (some .scanStart) fun rq s =>
    match scanStartBody rq.body with
    | none => s.answer rq .badBody []
    | some (l, first, last, timeout) => s.scanStart rq l first last timeout)

/-- SCAN_ABORT. -/
def execScanAbort (s : State) : Host.Outcome State Fault Refusal :=
  .next (s.take (some .scanAbort) fun rq s =>
    match lineBody rq.body with
    | none => s.answer rq .badBody []
    | some l => s.scanAbort rq l)

/-- STORE_SAVE. -/
def execStoreSave (s : State) : Host.Outcome State Fault Refusal :=
  .next (s.take (some .storeSave) fun rq s =>
    match emptyBody rq.body with
    | none => s.answer rq .badBody []
    | some _ => s.storeSave rq)

/-- STORE_ERASE. -/
def execStoreErase (s : State) : Host.Outcome State Fault Refusal :=
  .next (s.take (some .storeErase) fun rq s =>
    match emptyBody rq.body with
    | none => s.answer rq .badBody []
    | some _ => s.storeErase rq)

end Sys2Proof.Machine
end

