-- ==== Sys2Proof/Machine/LineEvents.lean ====
section
/-! DEFINITION. The events of the field lines: timers of an attempt, guard, fault, pins and characters (R31, R49, R50, R52,
R54, R59, R60, R64). -/

namespace Sys2Proof.Machine

/-- RESPONSE_TIMER_EXPIRY (R31): in WAITING the attempt ends TIMEOUT; in RECEIVING, and before the last echo has passed, the
passing of the timeout is kept, for the discard of a stray frame (R36) or the end of SENDING (R57, log entry 6). -/
def execResponseTimerExpiry (l : LineId) (s : State) : Host.Outcome State Fault Refusal :=
  .next (s.awake fun s =>
    match (s.line l).state, (s.line l).timer with
    | .waiting, .running => s.endAttempt l .timeout .guardTime
    | .receiving, .halted => s.updLine l fun x => { x with elapsed := true }
    | .sending, .running => s.updLine l fun x => { x with elapsed := true }
    | _, _ => s)

/-- FRAME_GAP_EXPIRY (R54): no new character of the open frame has begun; in RECEIVING the attempt ends CORRUPT (R34). -/
def execFrameGapExpiry (l : LineId) (s : State) : Host.Outcome State Fault Refusal :=
  .next (s.awake fun s =>
    if (s.line l).reception = none ∧ (s.line l).openFrame.isSome then
      if (s.line l).state = .receiving then s.breakCandidate l else s.setOpenFrame l none
    else s)

/-- ECHO_DEADLINE_EXPIRY (R52): a character whose stop bit has been sent has no good echo by its deadline. -/
def execEchoDeadlineExpiry (l : LineId) (s : State) : Host.Outcome State Fault Refusal :=
  .next (s.awake fun s =>
    if (s.line l).state = .sending ∧ (s.line l).echoed < (s.line l).sent then s.echoFails l else s)

/-- STUCK_SPACE_EXPIRY (R60): watched in every state but OFF and FAULT, with the pin at space. -/
def execStuckSpaceExpiry (l : LineId) (s : State) : Host.Outcome State Fault Refusal :=
  .next (s.awake fun s =>
    if (s.line l).state ≠ .off ∧ (s.line l).state ≠ .fault ∧ (s.line l).pinMark = false then s.enterFault l .stuck else s)

/-- FAULT_RECOVERY (R64): the line enters IDLE, LINE STATE is marked, and the arbiter is asked. -/
def execFaultRecovery (l : LineId) (s : State) : Host.Outcome State Fault Refusal :=
  .next (s.awake fun s =>
    if (s.line l).state = .fault ∧ (s.line l).pinMark = true then
      ((s.updLine l fun x => { x with state := .idle, reception := none }).mark (.lineState l)).askArbiter l
    else s)

/-- GUARD_END (R58, R59): not while a character is being received, nor while the receive pin is held at space (R58, R60). A
record present is a retry (R40); otherwise the line enters IDLE and the arbiter is asked. -/
def execGuardEnd (l : LineId) (s : State) : Host.Outcome State Fault Refusal :=
  .next (s.awake fun s =>
    if (s.line l).state = .guard ∧ (s.line l).reception = none ∧ (s.line l).pinMark = true then
      match (s.line l).transaction with
      | some t => s.updLine l fun x => x.startAttempt { t with made := t.made + 1 }
      | none => (s.updLine l fun x => { x with state := .idle, guardKind := none }).askArbiter l
    else s)

/-- STOP_BIT_SENT (R49): the next character starts; after the last one the response timer starts afresh (R31), and SENDING
ends if its echo has already passed (R30, R57). -/
def execStopBitSent (l : LineId) (s : State) : Host.Outcome State Fault Refusal :=
  .next (s.awake fun s =>
    let x := s.line l
    if x.state = .sending ∧ x.sent < x.frame.length then
      let starts := x.sent + 1 = x.frame.length ∧ x.transaction.any (fun t => t.kind.awaitsResponse) = true
      (s.updLine l fun x =>
        { x with
          sent := x.sent + 1
          timer := if starts then .running else x.timer
          elapsed := if starts then false else x.elapsed }).sendingEnds l
    else s)

/-- A change of the receive pin: a fall to space begins a character while the receiver is on and takes none (R50); a return
to mark ends a character held by its framing error (R50, log entry 9). -/
def Line.pinChanges (x : Line) (mark : Bool) : Line :=
  if mark = x.pinMark then x
  else if mark then { x with pinMark := true, reception := if x.reception = some .held then none else x.reception }
  else if x.state = .off ∨ x.reception ≠ none then { x with pinMark := false }
  else { x with pinMark := false, reception := some (if x.state = .sending then .echo x.sent else .plain) }

/-- RECEIVE_PIN_CHANGE (R50, R60, R64). During a reset the receiver takes nothing (R161). -/
def execReceivePinChange (l : LineId) (mark : Bool) (s : State) : Host.Outcome State Fault Refusal :=
  .next (match s.resetting with
    | none => s.updLine l fun x => x.pinChanges mark
    | some _ => s.updLine l fun x => { x with pinMark := mark })

/-- FIELD_CHARACTER_RECEIVED (R50, R54). While a character is held by its framing error no other one ends. -/
def execFieldCharacterReceived (l : LineId) (data : Byte) (mark good : Bool) (s : State) :
    Host.Outcome State Fault Refusal :=
  .next (s.awake fun s =>
    if (s.line l).state = .off ∨ (s.line l).reception = some .held then s else s.takeCharacter l data mark good)

end Sys2Proof.Machine
end

