-- ==== Sys2Proof/Machine/LineRequests.lean ====
section
/-! DEFINITION. The line requests: LINE SET (R67), LINE ENABLE (R66), LINE DISABLE (R65) and LINE INFO (R70). -/

namespace Sys2Proof.Machine

/-- LINE SET replaces all four settings of an OFF line (R67, R69). -/
def State.lineSet (s : State) (rq : Request) (l : LineId) (settings : LineSettings) : State :=
  let x := s.line l
  if x.state = .off then
    let s := s.setLine l { x with settings := settings }
    let s := if settings = x.settings then s else s.reportChange
    s.answer rq .ok [lineCode l]
  else s.answer rq .lineActive [lineCode l]

/-- LINE ENABLE takes an OFF line to IDLE, marks LINE STATE, reports the change, replies, and asks the arbiter (R66). -/
def State.lineEnable (s : State) (rq : Request) (l : LineId) : State :=
  if (s.line l).state = .off then
    let s := s.updLine l fun x => { x with state := .idle, enabled := true, collisionRun := 0 }
    let s := s.mark (.lineState l)
    let s := s.reportChange
    let s := s.answer rq .ok [lineCode l]
    s.askArbiter l
  else s.answer rq .ok [lineCode l]

/-- LINE DISABLE takes the line to OFF in the order of its steps (R65). -/
def State.lineDisable (s : State) (rq : Request) (l : LineId) : State :=
  if (s.line l).state = .off then s.answer rq .ok [lineCode l]
  else ((s.enterOff l).reportChange).answer rq .ok [lineCode l]

/-- The body of a LINE INFO reply after its status (R70, R164). -/
def lineInfoData (l : LineId) (x : Line) : List Byte :=
  [lineCode l, x.settings.rate, x.settings.guardTime] ++ halfBytes x.settings.recovery ++
    [x.settings.settle, flagByte x.enabled, x.state.code, x.faultCause.code] ++
    halfBytes x.counters.stray ++ halfBytes x.counters.noise ++ halfBytes x.counters.framing ++
    halfBytes x.counters.collisions ++ halfBytes x.counters.faults ++
    [byteOf x.demandQueue.length, flagByte x.scan.isSome]

/-- LINE INFO reports, then clears the counters if its flag says so (R70). -/
def State.lineInfo (s : State) (rq : Request) (l : LineId) (clear : Bool) : State :=
  let x := s.line l
  let s := if clear then s.setLine l { x with counters := {} } else s
  s.answer rq .ok (lineInfoData l x)

/-- LINE_SET. -/
def execLineSet (s : State) : Host.Outcome State Fault Refusal :=
  .next (s.take (some .lineSet) fun rq s =>
    match lineSetBody rq.body with
    | none => s.answer rq .badBody []
    | some (l, settings) => s.lineSet rq l settings)

/-- LINE_ENABLE. -/
def execLineEnable (s : State) : Host.Outcome State Fault Refusal :=
  .next (s.take (some .lineEnable) fun rq s =>
    match lineBody rq.body with
    | none => s.answer rq .badBody []
    | some l => s.lineEnable rq l)

/-- LINE_DISABLE. -/
def execLineDisable (s : State) : Host.Outcome State Fault Refusal :=
  .next (s.take (some .lineDisable) fun rq s =>
    match lineBody rq.body with
    | none => s.answer rq .badBody []
    | some l => s.lineDisable rq l)

/-- LINE_INFO. -/
def execLineInfo (s : State) : Host.Outcome State Fault Refusal :=
  .next (s.take (some .lineInfo) fun rq s =>
    match lineInfoBody rq.body with
    | none => s.answer rq .badBody []
    | some (l, clear) => s.lineInfo rq l clear)

end Sys2Proof.Machine
end

