-- ==== Sys2Proof/Machine/LinkEvents.lean ====
section
/-! DEFINITION. The events of the I2C link (R145, R147 to R151). -/

namespace Sys2Proof.Machine

/-- A write transaction ends: its slot is examined (R148). -/
def State.endWrite (s : State) (id : SlotId) (overLength : Bool) : State :=
  let s := { s with link := .none }
  match s.slot id with
  | .filling bytes =>
    if bytes = [] ∧ overLength = false then s.setSlot id .free
    else if overLength = false ∧ frameAccepted bytes = true then
      { s.setSlot id (.full bytes) with slotOrder := s.slotOrder ++ [id] }
    else (s.setSlot id .free).rejectFrame
  | _ => s

/-- A read transaction ends: a message whose every byte was sent is removed, and the walk runs (R150). -/
def State.endRead (s : State) (message : Option Message) (sent : Nat) : State :=
  let s := { s with link := .none }
  match message with
  | some m => if m.length ≤ sent then ({ s with outbound := s.outbound.tail }).walk else s
  | none => s

/-- A start condition while a transaction is in progress is a repeated start, which ends it (R148, R150, log entry 10). -/
def State.endLink (s : State) : State :=
  match s.link with
  | .write id overLength => s.endWrite id overLength
  | .read message sent => s.endRead message sent
  | .none => s

/-- A FREE request slot; the lower one of two (R147, log entry 7). -/
def State.freeSlot (s : State) : Option SlotId :=
  if s.slot0 = .free then some .s0 else if s.slot1 = .free then some .s1 else none

/-- The acknowledge bit the device answers with. -/
def State.acknowledge (s : State) (ack : Bool) : State := { s with linkAck := ack }

/-- WRITE_TRANSACTION_START (R145, R147). -/
def execWriteTransactionStart (address : BitVec 7) (s : State) : Host.Outcome State Fault Refusal :=
  .next (match s.resetting with
    | some _ => s.acknowledge false
    | none =>
      let s := s.endLink
      if address = s.targetAddress then
        match s.freeSlot with
        | some id => ({ s.setSlot id (.filling []) with link := .write id false }).acknowledge true
        | none => s.acknowledge false
      else s.acknowledge false)

/-- The byte of a write transaction is stored in its slot, or sets the over-length mark (R147). -/
def State.storeByte (s : State) (id : SlotId) (data : Byte) : State :=
  match s.slot id with
  | .filling bytes =>
    if bytes.length < Config.slotCapacity then (s.setSlot id (.filling (bytes ++ [data]))).acknowledge true
    else ({ s with link := .write id true }).acknowledge false
  | _ => s.acknowledge false

/-- WRITE_DATA_BYTE (R147). Outside a write transaction the device acknowledges nothing. -/
def execWriteDataByte (data : Byte) (s : State) : Host.Outcome State Fault Refusal :=
  .next (match s.resetting, s.link with
    | none, .write id _ => s.storeByte id data
    | _, _ => s.acknowledge false)

/-- WRITE_TRANSACTION_END (R148). -/
def execWriteTransactionEnd (s : State) : Host.Outcome State Fault Refusal :=
  .next (s.awake fun s =>
    match s.link with
    | .write id overLength => s.endWrite id overLength
    | _ => s)

/-- READ_TRANSACTION_START: the content is fixed to the head message, or to the empty queue's answer (R149). -/
def execReadTransactionStart (address : BitVec 7) (s : State) : Host.Outcome State Fault Refusal :=
  .next (match s.resetting with
    | some _ => s.acknowledge false
    | none =>
      let s := s.endLink
      if address = s.targetAddress then ({ s with link := .read s.outbound.head? 0 }).acknowledge true
      else s.acknowledge false)

/-- The byte a read transaction sends at this place: the message, then 0xFF; for an empty queue 0x00, then 0xFF (R149). -/
def readByte (message : Option Message) (sent : Nat) : Byte :=
  match message with
  | some m => (m.bytes[sent]?).getD 0xFF
  | none => if sent = 0 then 0x00 else 0xFF

/-- READ_BYTE_CLOCKED: the byte counts as sent (R150). -/
def execReadByteClocked (s : State) : Host.Outcome State Fault Refusal :=
  .next (s.awake fun s =>
    match s.link with
    | .read message sent => { s with link := .read message (sent + 1), linkByte := readByte message sent }
    | _ => s)

/-- READ_TRANSACTION_END (R150). -/
def execReadTransactionEnd (s : State) : Host.Outcome State Fault Refusal :=
  .next (s.awake fun s =>
    match s.link with
    | .read message sent => s.endRead message sent
    | _ => s)

/-- STALL_TIMER_EXPIRY: a write is rejected whatever its byte count, a read leaves its message; SDA is released (R151). -/
def execStallTimerExpiry (s : State) : Host.Outcome State Fault Refusal :=
  .next (s.awake fun s =>
    let released := { s with link := .none, linkAck := false, linkByte := 0xFF }
    match s.link with
    | .write id _ => (released.setSlot id .free).rejectFrame
    | .read _ _ => released
    | .none => s)

end Sys2Proof.Machine
end

