-- ==== Sys2Proof/Machine/NodeRequests.lean ====
section
/-! DEFINITION. The node requests: NODE ADD (R8, R9), NODE SET (R10), NODE REMOVE (R13, R14), NODE ENABLE (R11),
NODE DISABLE (R12), NODE INFO (R15) and READ SNAPSHOT (R95). -/

namespace Sys2Proof.Machine

/-- The lowest free index (R6). -/
def State.freeIndex (s : State) : Option Index := allIndices.find? fun i => (s.node i).isNone

/-- An entry in use other than this one holds the line and address (R10 check 5). -/
def State.heldByAnother (s : State) (i : Index) (l : LineId) (address : Byte) : Bool :=
  allIndices.any fun j =>
    match s.node j with
    | some n => decide (j ≠ i) && n.config.line = l && n.config.address = address
    | none => false

/-- NODE ADD after its body check: DUPLICATE, TABLE-FULL, or the lowest free index is put into use (R8, R9). -/
def State.nodeAdd (s : State) (rq : Request) (c : NodeConfig) (startDisabled : Bool) : State :=
  if s.addressHeld c.line c.address then s.answer rq .duplicate []
  else
    match s.freeIndex with
    | none => s.answer rq .tableFull []
    | some i =>
      let s := s.setNode i (some { config := c, state := if startDisabled then .disabled else .new })
      let s := s.setSnapshot i (some {})
      let s := s.reportChange
      let s := s.answer rq .ok [byteOf i]
      if ¬startDisabled ∧ c.descriptor.isSome then s.makeDueNow c.line i else s

/-- NODE SET after its body check (R10, R23). -/
def State.nodeSet (s : State) (rq : Request) (i : Index) (c : NodeConfig) : State :=
  match s.liveNode i with
  | none => s.answer rq .noSuchNode [byteOf i]
  | some n =>
    if n.state ≠ .disabled then s.answer rq .nodeActive [byteOf i]
    else if n.mark ≠ .none then s.answer rq .nodeActive [byteOf i]
    else if s.heldByAnother i c.line c.address then s.answer rq .duplicate [byteOf i]
    else
      let s := s.setNode i (some { n with config := c })
      let s := if c = n.config then s else s.reportChange
      s.answer rq .ok [byteOf i]

/-- The mark after NODE DISABLE or NODE REMOVE: ATTACHED becomes DETACHED (R4). -/
def TransactionMark.detach : TransactionMark → TransactionMark
  | .attached => .detached
  | .detached => .detached
  | .none => .none

/-- NODE REMOVE of a live entry, in the order of its steps (R13, R14, R23). -/
def State.nodeRemove (s : State) (rq : Request) (i : Index) : State :=
  match s.liveNode i with
  | none => s.answer rq .noSuchNode [byteOf i]
  | some n =>
    let l := n.config.line
    let s := s.setNode i (some { n with state := .removing, mark := n.mark.detach })
    let s := s.updLine l fun x => x.unschedule i
    let s := s.purge l i .nodeRemoved
    let s := s.withdraw i
    let s := s.setSnapshot i none
    let s := s.reportChange
    let s := s.answer rq .ok [byteOf i]
    if n.mark = .none then s.setNode i none else s

/-- NODE ENABLE (R11). -/
def State.nodeEnable (s : State) (rq : Request) (i : Index) : State :=
  match s.liveNode i with
  | none => s.answer rq .noSuchNode [byteOf i]
  | some n =>
    if n.state = .disabled then
      let s := s.setNode i (some { n with state := .new, failures := 0 })
      let s := s.mark (.nodeState i)
      let s := s.reportChange
      let s := s.answer rq .ok [byteOf i]
      if n.config.descriptor.isSome then s.makeDueNow n.config.line i else s
    else s.answer rq .ok [byteOf i]

/-- NODE DISABLE of a live entry, in the order of its steps (R12). -/
def State.nodeDisable (s : State) (rq : Request) (i : Index) : State :=
  match s.liveNode i with
  | none => s.answer rq .noSuchNode [byteOf i]
  | some n =>
    if n.state = .disabled then s.answer rq .ok [byteOf i]
    else
      let l := n.config.line
      let s := s.setNode i (some { n with state := .disabled, failures := 0, mark := n.mark.detach })
      let s := s.updLine l fun x => x.unschedule i
      let s := s.purge l i .nodeDisabled
      let s := s.mark (.nodeState i)
      let s := s.reportChange
      s.answer rq .ok [byteOf i]

/-- The body of a NODE INFO reply after its status (R15, R164). Without a descriptor its start item and count are 0. -/
def nodeInfoData (i : Index) (n : Node) : List Byte :=
  let d := n.config.descriptor.getD { start := 0, count := 0 }
  [byteOf i, n.config.address, lineCode n.config.line, nodeFlags n.config] ++ halfBytes d.start ++ [d.count] ++
    halfBytes n.config.period ++ [n.config.timeout, n.config.retries, n.config.limit] ++ n.state.bytes ++
    [byteOf n.failures, n.nextSequence, n.lastException] ++
    halfBytes n.counters.good ++ halfBytes n.counters.timeouts ++ halfBytes n.counters.corrupt ++
    halfBytes n.counters.exceptions ++ halfBytes n.counters.latePolls

/-- NODE INFO reports, then clears the counters if its flag says so (R15). -/
def State.nodeInfo (s : State) (rq : Request) (i : Index) (clear : Bool) : State :=
  match s.liveNode i with
  | none => s.answer rq .noSuchNode [byteOf i]
  | some n =>
    let s := if clear then s.setNode i (some { n with counters := {} }) else s
    s.answer rq .ok (nodeInfoData i n)

/-! ## READ SNAPSHOT (R93 to R95) -/

/-- The freshness of a snapshot (R94). -/
inductive Freshness where
  | absent
  | fresh
  | stale
deriving DecidableEq, Repr

/-- Freshness codes (R162). -/
def Freshness.code : Freshness → Byte
  | .absent => 0
  | .fresh => 1
  | .stale => 2

/-- The age of a record: part time minus capture time, modulo 2^32 (R93). -/
def SnapshotRecord.age (r : SnapshotRecord) (now : Word) : Nat := (now - r.captured).toNat

/-- The freshness of a record for its node's state and period (R94). -/
def SnapshotRecord.freshness (r : SnapshotRecord) (now : Word) (n : Node) : Freshness :=
  if (n.state = .online ∨ n.state = .suspect) ∧ r.agedOut = false ∧ r.age now ≤ 4 * n.config.period.toNat then .fresh
  else .stale

/-- The age as reported, capped at 65535 (R95). -/
def SnapshotRecord.reportedAge (r : SnapshotRecord) (now : Word) : Nat :=
  if r.agedOut then 65535 else min (r.age now) 65535

/-- The body of a READ SNAPSHOT reply after its status (R95, R164). -/
def snapshotData (i : Index) (n : Node) (now : Word) (x : Snapshot) : List Byte :=
  match x.record with
  | none => [byteOf i, Freshness.absent.code] ++ halfBytes 0 ++ halfBytes 0 ++ [0]
  | some r =>
    [byteOf i, (r.freshness now n).code] ++ halfBytes (BitVec.ofNat 16 (r.reportedAge now)) ++ halfBytes x.update ++
      [byteOf r.payload.length] ++ r.payload

/-- READ SNAPSHOT (R95). -/
def State.readSnapshot (s : State) (rq : Request) (i : Index) : State :=
  match s.liveNode i with
  | none => s.answer rq .noSuchNode [byteOf i]
  | some n => s.answer rq .ok (snapshotData i n s.partTime ((s.snapshot i).getD {}))

/-! ## The rows -/

/-- NODE_ADD. -/
def execNodeAdd (s : State) : Host.Outcome State Fault Refusal :=
  .next (s.take (some .nodeAdd) fun rq s =>
    match nodeBody rq.body with
    | none => s.answer rq .badBody []
    | some (c, startDisabled) => s.nodeAdd rq c startDisabled)

/-- NODE_SET. -/
def execNodeSet (s : State) : Host.Outcome State Fault Refusal :=
  .next (s.take (some .nodeSet) fun rq s =>
    match nodeSetBody rq.body with
    | none => s.answer rq .badBody []
    | some (i, c) => s.nodeSet rq i c)

/-- NODE_REMOVE. -/
def execNodeRemove (s : State) : Host.Outcome State Fault Refusal :=
  .next (s.take (some .nodeRemove) fun rq s =>
    match indexBody rq.body with
    | none => s.answer rq .badBody []
    | some i => s.nodeRemove rq i)

/-- NODE_ENABLE. -/
def execNodeEnable (s : State) : Host.Outcome State Fault Refusal :=
  .next (s.take (some .nodeEnable) fun rq s =>
    match indexBody rq.body with
    | none => s.answer rq .badBody []
    | some i => s.nodeEnable rq i)

/-- NODE_DISABLE. -/
def execNodeDisable (s : State) : Host.Outcome State Fault Refusal :=
  .next (s.take (some .nodeDisable) fun rq s =>
    match indexBody rq.body with
    | none => s.answer rq .badBody []
    | some i => s.nodeDisable rq i)

/-- NODE_INFO. -/
def execNodeInfo (s : State) : Host.Outcome State Fault Refusal :=
  .next (s.take (some .nodeInfo) fun rq s =>
    match nodeInfoBody rq.body with
    | none => s.answer rq .badBody []
    | some (i, clear) => s.nodeInfo rq i clear)

/-- READ_SNAPSHOT. -/
def execReadSnapshot (s : State) : Host.Outcome State Fault Refusal :=
  .next (s.take (some .readSnapshot) fun rq s =>
    match indexBody rq.body with
    | none => s.answer rq .badBody []
    | some i => s.readSnapshot rq i)

end Sys2Proof.Machine
end

