-- ==== Sys2Proof/Machine/TimeEvents.lean ====
section
/-! DEFINITION. The events of part time: the tick (R71), the timers of the nodes (R74, R75), the advance of waiting due
times (R78), and the ageing of snapshots (R93). -/

namespace Sys2Proof.Machine

/-- An event of the entry in use at an index, on its line; an index with none has no such event. -/
def State.onNode (s : State) (index : Nat) (f : Index → Node → State) : State :=
  if h : index < 32 then
    match s.node ⟨index, h⟩ with
    | some n => f ⟨index, h⟩ n
    | none => s
  else s

/-- PART_TIME_TICK: part time increases by 1, from 4294967295 to 0 (R71). -/
def execPartTimeTick (s : State) : Host.Outcome State Fault Refusal :=
  .next (s.awake fun s => { s with partTime := s.partTime + 1 })

/-- POLL_TIMER_EXPIRY: at the millisecond at which part time equals the timer's due time (R72, R74, log entry 5). -/
def execPollTimerExpiry (index : Nat) (s : State) : Host.Outcome State Fault Refusal :=
  .next (s.awake fun s => s.onNode index fun i n =>
    if (s.line n.config.line).pollTimers.get i = some s.partTime then s.timerExpires n.config.line i .poll s.partTime
    else s)

/-- RECOVERY_TIMER_EXPIRY: at the millisecond at which part time equals the timer's due time (R72, R75, log entry 5). -/
def execRecoveryTimerExpiry (index : Nat) (s : State) : Host.Outcome State Fault Refusal :=
  .next (s.awake fun s => s.onNode index fun i n =>
    if (s.line n.config.line).recoveryTimers.get i = some s.partTime then
      s.timerExpires n.config.line i .recovery s.partTime
    else s)

/-- A due-list entry of this index that has fallen more than 60000 ms behind part time is advanced to stand exactly 60000 ms
behind it: by 1 ms at each millisecond it waits, and by more for a poll that was put back beyond the bound (R78, R80, log
entry 20). -/
def DueEntry.advance (d : DueEntry) (i : Index) (now : Word) : DueEntry :=
  if d.index = i ∧ later now d.due = true ∧ Config.dueBound < now - d.due then { d with due := now - Config.dueBound } else d

/-- DUE_TIME_ADVANCE: the entry keeps its place (R78, log entries 5 and 20). -/
def execDueTimeAdvance (index : Nat) (s : State) : Host.Outcome State Fault Refusal :=
  .next (s.awake fun s => s.onNode index fun i n =>
    s.updLine n.config.line fun x => { x with dueList := x.dueList.map fun d => d.advance i s.partTime })

/-- SNAPSHOT_AGE_OUT: at the millisecond at which part time equals capture time plus 240000 (R93, log entry 5). -/
def execSnapshotAgeOut (index : Nat) (s : State) : Host.Outcome State Fault Refusal :=
  .next (s.awake fun s => s.onNode index fun i _ =>
    match s.snapshot i with
    | some x =>
      match x.record with
      | some r =>
        if s.partTime = r.captured + Config.ageBound then
          s.setSnapshot i (some { x with record := some { r with agedOut := true } })
        else s
      | none => s
    | none => s)

end Sys2Proof.Machine
end

