-- ==== Sys2Proof/Machine/Dispatch.lean ====
section
/-! DEFINITION. The meaning of every command: one arm per row of the table, one direct call each. -/

namespace Sys2Proof.Machine

def exec (i : Instr) (s : State) : Host.Outcome State Fault Refusal :=
  match i with
  | .status => Sys2Proof.Machine.execStatus s
  | .resetRequest => Sys2Proof.Machine.execReset s
  | .lineSet => Sys2Proof.Machine.execLineSet s
  | .lineEnable => Sys2Proof.Machine.execLineEnable s
  | .lineDisable => Sys2Proof.Machine.execLineDisable s
  | .lineInfo => Sys2Proof.Machine.execLineInfo s
  | .nodeAdd => Sys2Proof.Machine.execNodeAdd s
  | .nodeSet => Sys2Proof.Machine.execNodeSet s
  | .nodeRemove => Sys2Proof.Machine.execNodeRemove s
  | .nodeEnable => Sys2Proof.Machine.execNodeEnable s
  | .nodeDisable => Sys2Proof.Machine.execNodeDisable s
  | .nodeInfo => Sys2Proof.Machine.execNodeInfo s
  | .readSnapshot => Sys2Proof.Machine.execReadSnapshot s
  | .demand => Sys2Proof.Machine.execDemand s
  | .broadcast => Sys2Proof.Machine.execBroadcast s
  | .cancel => Sys2Proof.Machine.execCancel s
  | .scanStart => Sys2Proof.Machine.execScanStart s
  | .scanAbort => Sys2Proof.Machine.execScanAbort s
  | .storeSave => Sys2Proof.Machine.execStoreSave s
  | .storeErase => Sys2Proof.Machine.execStoreErase s
  | .unknownKind => Sys2Proof.Machine.execUnknownKind s
  | .writeTransactionStart address => Sys2Proof.Machine.execWriteTransactionStart address s
  | .writeTransactionEnd => Sys2Proof.Machine.execWriteTransactionEnd s
  | .readTransactionStart address => Sys2Proof.Machine.execReadTransactionStart address s
  | .readTransactionEnd => Sys2Proof.Machine.execReadTransactionEnd s
  | .stallTimerExpiry => Sys2Proof.Machine.execStallTimerExpiry s
  | .powerUp => Sys2Proof.Machine.execPowerUp s
  | .rstPinLow => Sys2Proof.Machine.execRstPinLow s
  | .resetComplete adr1 adr0 => Sys2Proof.Machine.execResetComplete adr1 adr0 s
  | .pollTimerExpiry index => Sys2Proof.Machine.execPollTimerExpiry index s
  | .recoveryTimerExpiry index => Sys2Proof.Machine.execRecoveryTimerExpiry index s
  | .dueTimeAdvance index => Sys2Proof.Machine.execDueTimeAdvance index s
  | .snapshotAgeOut index => Sys2Proof.Machine.execSnapshotAgeOut index s
  | .responseTimerExpiry line => Sys2Proof.Machine.execResponseTimerExpiry line s
  | .frameGapExpiry line => Sys2Proof.Machine.execFrameGapExpiry line s
  | .echoDeadlineExpiry line => Sys2Proof.Machine.execEchoDeadlineExpiry line s
  | .stuckSpaceExpiry line => Sys2Proof.Machine.execStuckSpaceExpiry line s
  | .faultRecovery line => Sys2Proof.Machine.execFaultRecovery line s
  | .guardEnd line => Sys2Proof.Machine.execGuardEnd line s
  | .fieldCharacterReceived line data mark good => Sys2Proof.Machine.execFieldCharacterReceived line data mark good s
  | .saveWriteCompletion phase => Sys2Proof.Machine.execSaveWriteCompletion s phase
  | .saveWriteTimerExpiry phase => Sys2Proof.Machine.execSaveWriteTimerExpiry s phase
  | .saveVerifyReadBack equal phase => Sys2Proof.Machine.execSaveVerifyReadBack equal s phase
  | .saveMarkWriteCompletion phase => Sys2Proof.Machine.execSaveMarkWriteCompletion s phase
  | .saveVerifyTimerExpiry phase => Sys2Proof.Machine.execSaveVerifyTimerExpiry s phase
  | .eraseInvalidationCompletion cleared phase => Sys2Proof.Machine.execEraseInvalidationCompletion cleared s phase
  | .eraseTimerExpiry phase => Sys2Proof.Machine.execEraseTimerExpiry s phase
  | .partTimeTick => Sys2Proof.Machine.execPartTimeTick s
  | .stopBitSent line => Sys2Proof.Machine.execStopBitSent line s
  | .receivePinChange line mark => Sys2Proof.Machine.execReceivePinChange line mark s
  | .writeDataByte data => Sys2Proof.Machine.execWriteDataByte data s
  | .readByteClocked => Sys2Proof.Machine.execReadByteClocked s

end Sys2Proof.Machine
end

