-- ==== Sys2Proof/Safety.lean ====
section
/-! DEFINITION. What a good state of the part is: the laws L1 and L3 to L10 of the spec, each as a predicate of one state;
and the notions in which the statements about commands are written. -/

namespace Sys2Proof.Machine

/-! ## Lines: laws L3, L7 and L10 -/

/-- The states in which an attempt is in flight (R56, law L3). -/
def LineState.attempting : LineState → Bool
  | .sending | .waiting | .receiving => true
  | .off | .idle | .guard | .fault => false

/-- The states in which a transaction record may be present (R56). -/
def LineState.busy : LineState → Bool
  | .sending | .waiting | .receiving | .guard => true
  | .off | .idle | .fault => false

/-- The states in which a line carries no work at all (law L10). -/
def LineState.away : LineState → Bool
  | .off | .fault => true
  | .idle | .sending | .waiting | .receiving | .guard => false

/-- A line in order: a record is present while an attempt is in flight (L3) and only while the line is busy (R56), a line
that is OFF or in FAULT has an empty demand queue and no scan job (L10), and the queue holds at most 8 entries (L7). -/
structure Line.InOrder (x : Line) : Prop where
  record_present : x.state.attempting = true → x.transaction ≠ none
  record_absent : x.state.busy = false → x.transaction = none
  away_queue : x.state.away = true → x.demandQueue = []
  away_scan : x.state.away = true → x.scan = none
  queue_bound : x.demandQueue.length ≤ Config.demandQueueCapacity

/-- Both lines are in order, but for a reset in progress, which discards their work at its end (R161). -/
def State.LinesInOrder (s : State) : Prop := s.resetting = none → ∀ l, (s.line l).InOrder

/-- The small counts of a line stay in the ranges the spec gives them: consecutive collisions below 4 between steps (R63),
streak 0..4 (R84), and fewer than 16 finds in a job that goes on (R123, R129). -/
structure Line.InBounds (x : Line) : Prop where
  collisions : x.collisionRun < Config.collisionLimit
  streak : x.streak ≤ Config.streakLimit
  found : ∀ j, x.scan = some j → j.found.length < Config.foundListCapacity

/-- Both lines' counts are in range. -/
def State.LinesInBounds (s : State) : Prop := ∀ l, (s.line l).InBounds

/-! ## Nodes: laws L4 and L8 -/

/-- No two entries in use hold the same line and address (law L4). -/
def State.AddressesDistinct (s : State) : Prop :=
  ∀ i j m n, s.node i = some m → s.node j = some n →
    m.config.line = n.config.line → m.config.address = n.config.address → i = j

/-- The relation between state and failure count (law L8). -/
def Node.FailuresAgree (n : Node) : Prop :=
  match n.state with
  | .online => n.failures = 0
  | .new => n.failures < n.config.limit.toNat
  | .suspect => 1 ≤ n.failures ∧ n.failures < n.config.limit.toNat
  | .offline => n.failures = n.config.limit.toNat
  | .disabled => n.failures = 0
  | .removing => True

/-! ## What refers to nodes: laws L7 and L9, and R73 -/

/-- The states in which a node's polls and demands run (R26, R107). -/
def NodeState.served : NodeState → Bool
  | .new | .online | .suspect => true
  | .offline | .disabled | .removing => false

/-- The entry at an index is in use, bound to this line, and has this property. -/
def State.NodeOn (s : State) (l : LineId) (i : Index) (p : Node → Prop) : Prop :=
  ∃ n, s.node i = some n ∧ n.config.line = l ∧ p n

/-- A node that is polled: served, and with a descriptor (R74). -/
def Node.Polled (n : Node) : Prop := n.state.served = true ∧ n.config.descriptor ≠ none

/-- The nodes that a due-list entry of each kind may name (R74, R75, R77). -/
def DueKind.Names (k : DueKind) (n : Node) : Prop :=
  match k with
  | .poll => n.Polled
  | .recovery => n.state = .offline

/-- The nodes that a transaction of each kind may refer to while their mark is ATTACHED (R4, R21, R26). -/
def TransactionKind.Names (k : TransactionKind) (n : Node) : Prop :=
  match k with
  | .poll _ _ => n.Polled
  | .demand _ _ _ => n.state.served = true
  | .recoveryProbe _ => n.state = .offline
  | .broadcast _ _ | .scanProbe => True

/-- The index whose poll or recovery probe a transaction is: one of the places of R73. -/
def TransactionKind.service : TransactionKind → Option Index
  | .poll i _ => some i
  | .recoveryProbe i => some i
  | .demand _ _ _ | .broadcast _ _ | .scanProbe => none

/-- The index has no running timer on the line. -/
def Line.Untimed (x : Line) (i : Index) : Prop := x.pollTimers.get i = none ∧ x.recoveryTimers.get i = none

/-- The index stands in the due list of the line. -/
def Line.IsDue (x : Line) (i : Index) : Prop := ∃ d ∈ x.dueList, d.index = i

/-- The node table and what refers to it: the failure counts (L8), a REMOVING entry waits for its transaction alone (R14),
queued demands name served nodes of their line (L7), a transaction refers to a node of its line whose mark is not NONE (R4), due-list
entries and timers name nodes of their line in the states of R74 and R75, a node is in at most one of the places of R73, and
snapshots and pending notices belong to live entries (L9, R91). -/
structure State.NodesAgree (s : State) : Prop where
  failures : ∀ i n, s.node i = some n → n.FailuresAgree ∧ 1 ≤ n.config.limit.toNat
  removing : ∀ i n, s.node i = some n → n.state = .removing → n.mark = .detached
  demands : ∀ l, ∀ e ∈ (s.line l).demandQueue, ∀ i, e.node = some i → s.NodeOn l i fun n => n.state.served = true
  flight : ∀ l t i, (s.line l).transaction = some t → t.kind.node = some i →
    s.NodeOn l i fun n => n.mark ≠ .none ∧ (n.mark = .attached → t.kind.Names n)
  due : ∀ l, ∀ d ∈ (s.line l).dueList, s.NodeOn l d.index d.kind.Names ∧ (s.line l).Untimed d.index
  due_once : ∀ l, ((s.line l).dueList.map DueEntry.index).Nodup
  poll_timers : ∀ l i due, (s.line l).pollTimers.get i = some due → s.NodeOn l i Node.Polled
  recovery_timers : ∀ l i due, (s.line l).recoveryTimers.get i = some due → s.NodeOn l i fun n => n.state = .offline
  service : ∀ l t i, (s.line l).transaction = some t → t.kind.service = some i → s.attached i = true →
    (s.line l).Untimed i ∧ ¬(s.line l).IsDue i
  snapshots : ∀ i, s.snapshot i = none ↔ s.liveNode i = none
  pending : ∀ i, Subject.nodeState i ∈ s.notices ∨ Subject.change i ∈ s.notices → s.liveNode i ≠ none

/-- The node table agrees with what refers to it, but for a reset in progress, which empties it at its end (R161). -/
def State.NodesInOrder (s : State) : Prop := s.resetting = none → s.NodesAgree

/-! ## Notices and tags: laws L5 and L6 -/

/-- At most one pending entry and one queued notice for each subject (law L5). -/
structure State.NoticesSingle (s : State) : Prop where
  pending_once : s.notices.Nodup
  queued_once : (s.outbound.filterMap Message.subject).Nodup

/-- A subject is reported: it is pending, or its notice is in the queue. -/
def State.Reported (s : State) (sub : Subject) : Prop := sub ∈ s.notices ∨ s.noticeQueued sub = true

/-- What marks of the subjects `marked`, and walks between them, do to the notices: no reported subject is lost, the list keeps its
order and gains only what was marked, at its tail, and the link error count returns to 0 with the admission of its notice alone
(R97 to R99, R101). -/
structure State.NoticesKept (s t : State) (marked : List Subject) : Prop where
  reported : ∀ sub, s.Reported sub → t.Reported sub
  order : t.notices.Sublist (s.notices ++ marked)
  count : t.linkErrors = s.linkErrors ∨
    t.linkErrors = 0 ∧ s.noticeQueued .linkError = false ∧ t.noticeQueued .linkError = true

/-- No tag stands twice in the tag registry (R157). -/
def State.TagsDistinct (s : State) : Prop := s.tags.Nodup

/-- The tags of a line's outstanding requests: its demand queue, its demand or broadcast in flight, its scan job (R157). -/
def Line.tags (x : Line) : List Byte :=
  x.demandQueue.map DemandEntry.tag ++ (x.transaction.bind fun t => t.kind.tag).toList ++ (x.scan.map ScanJob.tag).toList

/-- The tag of a store job. -/
def StoreJob.tag : StoreJob → Byte
  | .save tag _ _ _ _ => tag
  | .erase tag _ _ _ => tag

/-- The tags of the outstanding deferred requests: accepted, with their replies not yet queued (R157). -/
def State.outstanding (s : State) : List Byte :=
  s.lineA.tags ++ s.lineB.tags ++ (s.storeJob.map StoreJob.tag).toList

/-- Law L6: the registry holds the tags of the outstanding deferred requests, each once, but for a reset in progress, which
empties it at its end (R157, R161). -/
def State.TagsAgree (s : State) : Prop := s.resetting = none → s.tags.Perm s.outstanding

/-! ## The host link (R146) -/

/-- The host link in order: a slot is FILLING exactly while a write into it is in progress, with at most 63 bytes, and all 63 once the
over-length mark is set (R147); the slot order lists each FULL slot once, with a frame that passed the checks (R148); and the
message that a read in progress is fixed to is the head of the outbound queue (R149). -/
structure State.LinkInOrder (s : State) : Prop where
  filling : ∀ id, (∃ bytes, s.slot id = .filling bytes) ↔ ∃ overLength, s.link = .write id overLength
  stored : ∀ id bytes, s.slot id = .filling bytes → bytes.length ≤ 63 ∧ (s.link = .write id true → bytes.length = 63)
  full : ∀ id, id ∈ s.slotOrder ↔ ∃ bytes, s.slot id = .full bytes
  once : s.slotOrder.Nodup
  accepted : ∀ id bytes, s.slot id = .full bytes → frameAccepted bytes = true
  fixed : ∀ message sent, s.link = .read (some message) sent → s.outbound.head? = some message

/-! ## Space: law L1 -/

/-- Law L1: occupied and reserved bytes never exceed 2048. -/
def State.SpaceKept (s : State) : Prop := s.occupied + s.reserved ≤ Config.outboundCapacity

/-- The counts and the data length that a DEMAND, or with `write` a BROADCAST, admits (R109, R114). -/
def Operation.admitted : Operation → Prop
  | .ping => True
  | .read _ count => 1 ≤ count.toNat ∧ count.toNat ≤ 24
  | .write _ count data => 1 ≤ count.toNat ∧ count.toNat ≤ 22 ∧ data.length = 2 * count.toNat

/-- The largest deferred reply of a DEMAND with this operation (R121). -/
def Operation.largestReply : Operation → Nat
  | .ping => 10
  | .read _ count => 8 + 2 * count.toNat
  | .write _ _ _ => 9

/-- The largest deferred reply of a demand, or of a BROADCAST, which names no node (R121). -/
def largestDeferred (node : Option Index) (op : Operation) : Nat :=
  match node with
  | some _ => op.largestReply
  | none => 7

/-- The reservations of a line's queued demands and broadcasts. -/
def Line.queueReserved (x : Line) : Nat := (x.demandQueue.map DemandEntry.reserved).sum

/-- The reservation of a line's demand or broadcast in flight. -/
def Line.flightReserved (x : Line) : Nat :=
  match x.transaction with
  | some t =>
    match t.kind with
    | .demand _ _ reserved => reserved
    | .broadcast _ reserved => reserved
    | .poll _ _ | .recoveryProbe _ | .scanProbe => 0
  | none => 0

/-- The reservation of a line's scan job. -/
def Line.scanReserved (x : Line) : Nat := if x.scan.isSome then Config.scanReservation else 0

/-- The reservation of the store job. -/
def State.jobReserved (s : State) : Nat :=
  match s.storeJob with
  | some (.save _ _ _ _ _) => Config.saveReservation
  | some (.erase _ _ _ _) => Config.eraseReservation
  | none => 0

/-- The reservations standing: those of the accepted deferred requests whose replies are not yet queued (R153). -/
def State.standing (s : State) : Nat :=
  s.lineA.queueReserved + s.lineA.flightReserved + s.lineA.scanReserved +
    (s.lineB.queueReserved + s.lineB.flightReserved + s.lineB.scanReserved) + s.jobReserved

/-- A transaction whose reply or payload has the size the spec bounds: a demand or broadcast has an admitted operation (R109,
R114) and keeps the reservation of its largest reply (R121), a poll reads at most 24 items (R26). -/
def Transaction.Sized (t : Transaction) : Prop :=
  match t.kind with
  | .poll _ _ => ∃ start count, t.operation = .read start count ∧ count.toNat ≤ 24
  | .demand i _ reserved => reserved = largestDeferred (some i) t.operation ∧ t.operation.admitted
  | .broadcast _ reserved => reserved = largestDeferred none t.operation ∧ t.operation.admitted
  | .recoveryProbe _ => True
  | .scanProbe => True

/-- Law L1 with all that keeps it: the reservation total is the sum of the reservations standing (R146, R153), every entry
and transaction has an admitted operation and keeps the reservation of its largest reply (R109, R121), a job that goes on has fewer than 16 finds (R129), the
configurations are in range (R1), and a snapshot's payload has at most 48 bytes (R91). -/
structure State.Accounted (s : State) : Prop where
  space : s.SpaceKept
  total : s.reserved = s.standing
  entries : ∀ l, ∀ e ∈ (s.line l).demandQueue, e.reserved = largestDeferred e.node e.operation ∧ e.operation.admitted
  flight : ∀ l t, (s.line l).transaction = some t → t.Sized
  found : ∀ l j, (s.line l).scan = some j → j.found.length < Config.foundListCapacity
  configs : ∀ i n, s.node i = some n → n.config.inRange = true
  payloads : ∀ i x r, s.snapshot i = some x → x.record = some r → r.payload.length ≤ 48

/-- The accounts are kept, but for a reset in progress, which discards them at its end (R161). -/
def State.AccountsKept (s : State) : Prop := s.resetting = none → s.Accounted

/-! ## The store (R134 to R140) -/

/-- What a store job holds of its slot while it runs. A SAVE writes a slot whose mark is clear: its image is in range, its
generation is above that of the other slot if that is VALID, and from the read-back on the slot holds what was written (R137, R138).
An ERASE has cleared the mark of a VALID slot; the slots still to do are VALID; giving the slot back would leave the current
generation 0 or that of the newest VALID slot (R140). -/
def State.JobAgrees (s : State) : StoreJob → Prop
  | .save _ phase image target generation =>
    (s.storeSlot target).mark = false ∧ image.inRange = true ∧ generation ≠ 0 ∧
      (∀ other, other ≠ target → (s.storeSlot other).valid = true → (s.storeSlot other).generation.toNat < generation.toNat) ∧
      (phase ≠ .write → s.storeSlot target = { mark := false, crcGood := true, generation := generation, image := image })
  | .erase _ slot rest held =>
    (s.storeSlot slot).mark = false ∧ { s.storeSlot slot with mark := true }.valid = true ∧
      rest.length ≤ 1 ∧ (∀ other ∈ rest, other ≠ slot ∧ (s.storeSlot other).valid = true) ∧
      (∀ other, other ≠ slot → (s.storeSlot other).valid = true →
        (s.storeSlot slot).generation.toNat ≤ (s.storeSlot other).generation.toNat) ∧
      (held = true → s.generation = 0 ∧ ∀ other, other ≠ slot → (s.storeSlot other).valid = true →
        (s.storeSlot slot).generation = (s.storeSlot other).generation)

/-- The store in order: the configuration it would capture is in range (R1, R48, R135), its job agrees with the slots, and the
current generation is 0 or the generation of the newest VALID slot (R136). -/
structure State.StoreInOrder (s : State) : Prop where
  settings : ∀ l, (s.line l).settings.inRange = true
  configs : ∀ i n, s.node i = some n → n.config.inRange = true
  job : ∀ j, s.storeJob = some j → s.JobAgrees j
  current : s.generation = 0 ∨ s.generation = s.newestGeneration

/-! ## The notions of the statements about commands -/

/-- The kind of request that a row takes from its slot: one of the twenty kinds, or none of them (R156). The other rows take
no request. -/
def requestOfRow : Instr → Option (Option RequestKind)
  | .status => some (some .status)
  | .resetRequest => some (some .reset)
  | .lineSet => some (some .lineSet)
  | .lineEnable => some (some .lineEnable)
  | .lineDisable => some (some .lineDisable)
  | .lineInfo => some (some .lineInfo)
  | .nodeAdd => some (some .nodeAdd)
  | .nodeSet => some (some .nodeSet)
  | .nodeRemove => some (some .nodeRemove)
  | .nodeEnable => some (some .nodeEnable)
  | .nodeDisable => some (some .nodeDisable)
  | .nodeInfo => some (some .nodeInfo)
  | .readSnapshot => some (some .readSnapshot)
  | .demand => some (some .demand)
  | .broadcast => some (some .broadcast)
  | .cancel => some (some .cancel)
  | .scanStart => some (some .scanStart)
  | .scanAbort => some (some .scanAbort)
  | .storeSave => some (some .storeSave)
  | .storeErase => some (some .storeErase)
  | .unknownKind => some none
  | .writeTransactionStart _ | .writeTransactionEnd | .readTransactionStart _ | .readTransactionEnd => none
  | .stallTimerExpiry | .powerUp | .rstPinLow | .resetComplete _ _ => none
  | .pollTimerExpiry _ | .recoveryTimerExpiry _ | .dueTimeAdvance _ | .snapshotAgeOut _ => none
  | .responseTimerExpiry _ | .frameGapExpiry _ | .echoDeadlineExpiry _ | .stuckSpaceExpiry _ | .faultRecovery _ => none
  | .guardEnd _ | .fieldCharacterReceived _ _ _ _ => none
  | .saveWriteCompletion _ | .saveWriteTimerExpiry _ | .saveVerifyReadBack _ _ | .saveMarkWriteCompletion _ => none
  | .saveVerifyTimerExpiry _ | .eraseInvalidationCompletion _ _ | .eraseTimerExpiry _ => none
  | .partTimeTick | .stopBitSent _ | .receivePinChange _ _ | .writeDataByte _ | .readByteClocked => none

/-- The number of the phase that a store row belongs to: the completions, timer expiries and read-backs of R142. The other rows are
no event of the store's own. -/
def phaseOfRow : Instr → Option Nat
  | .saveWriteCompletion phase | .saveWriteTimerExpiry phase | .saveVerifyReadBack _ phase => some phase
  | .saveMarkWriteCompletion phase | .saveVerifyTimerExpiry phase => some phase
  | .eraseInvalidationCompletion _ phase | .eraseTimerExpiry phase => some phase
  | .status | .resetRequest | .lineSet | .lineEnable | .lineDisable | .lineInfo | .nodeAdd | .nodeSet | .nodeRemove => none
  | .nodeEnable | .nodeDisable | .nodeInfo | .readSnapshot | .demand | .broadcast | .cancel | .scanStart | .scanAbort => none
  | .storeSave | .storeErase | .unknownKind => none
  | .writeTransactionStart _ | .writeTransactionEnd | .readTransactionStart _ | .readTransactionEnd => none
  | .stallTimerExpiry | .powerUp | .rstPinLow | .resetComplete _ _ => none
  | .pollTimerExpiry _ | .recoveryTimerExpiry _ | .dueTimeAdvance _ | .snapshotAgeOut _ => none
  | .responseTimerExpiry _ | .frameGapExpiry _ | .echoDeadlineExpiry _ | .stuckSpaceExpiry _ | .faultRecovery _ => none
  | .guardEnd _ | .fieldCharacterReceived _ _ _ _ => none
  | .partTimeTick | .stopBitSent _ | .receivePinChange _ _ | .writeDataByte _ | .readByteClocked => none

/-- The body of a request passes check 2 of R156: its length and its fields are those of its kind (R163). -/
def RequestKind.bodyGood : RequestKind → List Byte → Bool
  | .status, b => (emptyBody b).isSome
  | .reset, b => (emptyBody b).isSome
  | .lineSet, b => (lineSetBody b).isSome
  | .lineEnable, b => (lineBody b).isSome
  | .lineDisable, b => (lineBody b).isSome
  | .lineInfo, b => (lineInfoBody b).isSome
  | .nodeAdd, b => (nodeBody b).isSome
  | .nodeSet, b => (nodeSetBody b).isSome
  | .nodeRemove, b => (indexBody b).isSome
  | .nodeEnable, b => (indexBody b).isSome
  | .nodeDisable, b => (indexBody b).isSome
  | .nodeInfo, b => (nodeInfoBody b).isSome
  | .readSnapshot, b => (indexBody b).isSome
  | .demand, b => (demandBody b).isSome
  | .broadcast, b => (broadcastBody b).isSome
  | .cancel, b => (cancelBody b).isSome
  | .scanStart, b => (scanStartBody b).isSome
  | .scanAbort, b => (lineBody b).isSome
  | .storeSave, b => (emptyBody b).isSome
  | .storeErase, b => (emptyBody b).isSome

/-- The part once a request has left its slot and its reservation stands no longer. -/
def State.taken (s : State) (id : SlotId) : State := { s.setSlot id .free with slotOrder := s.slotOrder.tail }

/-- The body of a NODE ADD, with its descriptor group if there is a descriptor, and with its timing group if it is `timed`
(R8, R163). -/
def nodeBytes (c : NodeConfig) (startDisabled timed : Bool) : List Byte :=
  [c.address, lineCode c.line,
    (if c.descriptor.isSome then 1 else 0) + (if timed then 2 else 0) + (if c.notify then 4 else 0) +
      (if startDisabled then 8 else 0)] ++
    (match c.descriptor with
      | some d => halfBytes d.start ++ [d.count]
      | none => []) ++
    (if timed then halfBytes c.period ++ [c.timeout, c.retries, c.limit] else [])

/-- The operation, start item, count and data of a DEMAND's body (R109, R163). -/
def Operation.bytes : Operation → List Byte
  | .ping => [1]
  | .read start count => 2 :: halfBytes start ++ [count]
  | .write start count data => 3 :: halfBytes start ++ count :: data

/-- The replies among the messages, in their order. -/
def repliesOf (ms : List Message) : List Reply :=
  ms.filterMap fun m =>
    match m with
    | .reply r => some r
    | .notice _ => none

/-- The deferred reply that a line's demand or broadcast in flight receives when the line goes away (R41, R113, R116). -/
def Line.flightReply (x : Line) (l : LineId) (status : Status) : Option Reply :=
  match x.transaction with
  | some t =>
    match t.kind with
    | .demand i tag _ => some (demandReply l tag (some i) t.operation status [])
    | .broadcast tag _ => some (demandReply l tag none t.operation status [])
    | .poll _ _ | .recoveryProbe _ | .scanProbe => none
  | none => none

/-- The replies of the work a line loses when it goes to OFF or FAULT, in the order of R65 and R62: the work in flight, the
demand queue, the scan job. -/
def Line.lostReplies (x : Line) (l : LineId) (status : Status) : List Reply :=
  (x.flightReply l status).toList ++ x.demandQueue.map (fun e => demandReply l e.tag e.node e.operation status []) ++
    (x.scan.map fun j => j.reply l status).toList

/-- The node that a line's transaction in flight refers to, if it refers to one (R25). -/
def Line.inFlightNode (x : Line) : Option Index := x.transaction.bind fun t => t.kind.node

/-- The due list of a line that loses its transaction: a poll whose outcome is applied is put back at the head with its
previous due time (R80). -/
def State.dueListAfterLoss (s : State) (l : LineId) : List DueEntry :=
  match (s.line l).transaction.map Transaction.kind with
  | some (.poll i due) =>
    if s.attached i then { index := i, kind := .poll, due := due } :: (s.line l).dueList else (s.line l).dueList
  | _ => (s.line l).dueList

/-- The recovery timers of a line that loses its transaction: that of a probe whose outcome is applied is armed again (R20,
R75). -/
def State.recoveryTimersAfterLoss (s : State) (l : LineId) : Vector (Option Word) 32 :=
  match (s.line l).transaction.map Transaction.kind with
  | some (.recoveryProbe i) =>
    if s.attached i then
      (s.line l).recoveryTimers.set i.val (some (s.partTime + (s.line l).settings.recovery.setWidth 32)) i.isLt
    else (s.line l).recoveryTimers
  | _ => (s.line l).recoveryTimers

/-- A node whose transaction its line has lost: nothing but its mark, which returns to NONE, and a REMOVING entry is freed
(R19, R20, R21, R14). -/
def Node.afterLoss (n : Node) : Option Node :=
  if n.mark = .detached ∧ n.state = .removing then none else some { n with mark := .none }

/-- The due list that an image leaves on a line right after a reset: its NEW nodes with a descriptor, in index order (R89). -/
def Image.dueOn (x : Image) (l : LineId) : List DueEntry :=
  (allIndices.filter fun i =>
    x.nodes.any fun r => r.index = i && r.config.line = l && !r.disabled && r.config.descriptor.isSome).map
      fun i => { index := i, kind := .poll, due := 0 }

end Sys2Proof.Machine
end

