-- ==== Sys2Proof/Certificates/Slice0/Obligations.lean ====
section
/-! DEFINITION. The statements for the provers, in the order of OBLIGATIONS.json: the queue of commands, the requests, the
reset, the link, time, the lines, the store, the shared operations, and the laws that every step keeps. -/

section

open Sys2Proof Sys2Proof.Machine

/-! ## The queue of commands -/

/-- A step runs the command at the front of the queue on the state with the queue's rest. On an empty queue it changes nothing
(the model's choice, log entry 3). -/
def Obligations.StepRunsFrontCommand : Prop :=
  (∀ (c : Instr) (rest : List Instr) (s : State), step { s with pending := c :: rest } = exec c { s with pending := rest }) ∧
  (∀ s : State, step { s with pending := [] } = .next { s with pending := [] })

/-- Every command answers a next state, leaves the queue alone, and does not look at it (spec 95: each step whole). The queue of
commands is the model's own field (log entry 3), and that a row whose event cannot happen in the state answers that same state
is the model's inference (log entry 2). -/
def Obligations.EveryCommandCompletes : Prop :=
  ∀ (c : Instr) (s : State) (q : List Instr), ∃ t,
    exec c s = .next t ∧ t.pending = s.pending ∧ exec c { s with pending := q } = .next { t with pending := q }

/-! ## Taking requests -/

/-- A request row changes nothing while the oldest request does not fit in free space (R154), is of another kind, or is
absent (the last two: the model's form of the row, log entry 1). A request reserves the length of the largest reply of its kind, and a
DEMAND or BROADCAST with its operation or count out of range 6 bytes (R155, R164; the count of a WRITE or BROADCAST: log entry 12). -/
def Obligations.RequestThatDoesNotFitWaits : Prop :=
  (∀ (c : Instr) (k : Option RequestKind) (s : State), requestOfRow c = some k → s.resetting = none →
    (∀ id rq, s.oldestRequest = some (id, rq) → s.freeSpace < rq.reservation → exec c s = .next s) ∧
    (∀ id rq, s.oldestRequest = some (id, rq) → requestKindOf rq.kind ≠ k → exec c s = .next s) ∧
    (s.slotOrder = [] → exec c s = .next s)) ∧
  ∀ rq : Request,
    (requestKindOf rq.kind = none → rq.reservation = 7) ∧
    (∀ k n, requestKindOf rq.kind = some k →
      (k, n) ∈ [(RequestKind.status, 23), (.reset, 6), (.lineSet, 7), (.lineEnable, 7), (.lineDisable, 7), (.lineInfo, 27),
        (.nodeAdd, 7), (.nodeSet, 7), (.nodeRemove, 7), (.nodeEnable, 7), (.nodeDisable, 7), (.nodeInfo, 32), (.readSnapshot, 61),
        (.cancel, 7), (.scanStart, 57), (.scanAbort, 7), (.storeSave, 10), (.storeErase, 6)] → rq.reservation = n) ∧
    (requestKindOf rq.kind = some .demand →
      (∀ i op, demandBody rq.body = some (i, op) → rq.reservation = op.largestReply) ∧
      (rq.body[1]? ≠ some 1 → rq.body[1]? ≠ some 2 → rq.body[1]? ≠ some 3 → rq.reservation = 6) ∧
      (rq.body[1]? = some 2 → rq.body[4]? = none → rq.reservation = 6) ∧
      (∀ count, rq.body[1]? = some 2 → rq.body[4]? = some count → count = 0 ∨ 24 < count.toNat → rq.reservation = 6) ∧
      (∀ count, rq.body[1]? = some 3 → rq.body[4]? = some count → count = 0 ∨ 22 < count.toNat → rq.reservation = 6)) ∧
    (requestKindOf rq.kind = some .broadcast →
      (∀ l op, broadcastBody rq.body = some (l, op) → rq.reservation = 7) ∧
      (∀ count, rq.body[3]? = some count → count = 0 ∨ 22 < count.toNat → rq.reservation = 6))

/-- The generic checks. A request of an unknown kind gets UNKNOWN-KIND, kind 0xFF, with the kind received; one of a known kind
whose body is not one of its kind gets BAD-BODY. Neither has another effect (R156 checks 1 and 2). What a body with a bad count
reserves is log entry 12. -/
def Obligations.GenericChecksRefuse : Prop :=
  (∀ (s : State) (id : SlotId) (rq : Request), s.ready none id rq →
    exec .unknownKind s = .next { s.taken id with
      outbound := s.outbound ++ [.reply { kind := 0xFF, tag := rq.tag, status := .unknownKind, data := [rq.kind] }] }) ∧
  (∀ (c : Instr) (k : RequestKind) (s : State) (id : SlotId) (rq : Request), requestOfRow c = some (some k) →
    s.ready (some k) id rq → k.bodyGood rq.body = false →
    exec c s = .next ((s.accept id rq).queueReply rq.reservation
      { kind := k.code + 0x80, tag := rq.tag, status := .badBody, data := [] }))

/-- STATUS reports the values as they stand with its own 23 bytes reserved, and changes nothing else; a body gets BAD-BODY
(R159). The store flags' unstated bits are 0 (the model's choice, log entry 28). -/
def Obligations.StatusReports : Prop :=
  ∀ (s : State) (id : SlotId) (rq : Request), s.ready (some .status) id rq →
    (rq.body = [] → exec .status s = .next { s.taken id with
      outbound := s.outbound ++ [.reply
        { kind := 0x81, tag := rq.tag, status := .ok
          data := wordBytes s.partTime ++
            [s.lineA.state.code, s.lineB.state.code, byteOf (allIndices.countP fun i => (s.liveNode i).isSome)] ++
            halfBytes (BitVec.ofNat 16 (s.freeSpace - 23)) ++ halfBytes (BitVec.ofNat 16 (s.reserved + 23)) ++
            wordBytes s.generation ++
            [(if s.storeJob.isSome then 1 else 0) ||| (if s.configChanged then 2 else 0), s.strap.setWidth 8] }] }) ∧
    (rq.body ≠ [] → exec .status s = .next ((s.accept id rq).queueReply 23
      { kind := 0x81, tag := rq.tag, status := .badBody, data := [] }))

/-! ## Reset -/

/-- A RESET that passes its checks gets no reply and starts a reset with cause REQUEST, which READY reports: as at every reset,
field transactions, the store job and link transactions end without an outcome or a reply, and both lines are quiet (R160, R161,
R45, R144). A body gets BAD-BODY. That the lines show OFF meanwhile is the model's choice (log entry 15), and so are the two
released outputs of the link (log entry 16). -/
def Obligations.ResetRequestStartsReset : Prop :=
  ∀ (s : State) (id : SlotId) (rq : Request), s.ready (some .reset) id rq →
    (rq.body = [] → ∃ t, exec .resetRequest s = .next t ∧
      t = { s with
        resetting := some .request, slot0 := .free, slot1 := .free, slotOrder := [], link := .none, storeJob := none
        linkAck := false, linkByte := 0xFF, reserved := s.reserved + 6, lineA := t.lineA, lineB := t.lineB } ∧
      t.attention = false ∧
      (∀ l, t.line l = { s.line l with
        state := .off, transaction := none, openFrame := none, guardKind := none, frame := [], sent := 0, echoed := 0
        timer := .stopped, elapsed := false, reception := none }) ∧
      ∀ adr1 adr0, ∃ u, exec (.resetComplete adr1 adr0) t = .next u ∧ u.reserved = 0 ∧
        u.outbound = [.notice (.ready .request u.generation (BitVec.ofBool adr1 ++ BitVec.ofBool adr0))]) ∧
    (rq.body ≠ [] → exec .resetRequest s = .next { s.taken id with
      outbound := s.outbound ++ [.reply { kind := 0x82, tag := rq.tag, status := .badBody, data := [] }] })

/-- POWER_UP and RST_PIN_LOW begin a reset: field transactions, store jobs and link transactions end without an outcome or a
reply, and both lines are quiet (R161, R45, R144). RST# low within a POWER reset begins none (R161). That the lines show OFF
meanwhile is the model's choice (log entry 15), and so are the two released outputs of the link (log entry 16). -/
def Obligations.ResetBegins : Prop :=
  (∀ (s : State) (c : Instr) (cause : ResetCause),
    (c = .powerUp ∧ cause = .power ∨ c = .rstPinLow ∧ cause = .pin ∧ s.resetting ≠ some .power) →
    ∃ t, exec c s = .next t ∧
      t = { s with
        resetting := some cause, slot0 := .free, slot1 := .free, slotOrder := [], link := .none, storeJob := none
        linkAck := false, linkByte := 0xFF, lineA := t.lineA, lineB := t.lineB } ∧
      t.attention = false ∧
      ∀ l, t.line l = { s.line l with
        state := .off, transaction := none, openFrame := none, guardKind := none, frame := [], sent := 0, echoed := 0
        timer := .stopped, elapsed := false, reception := none }) ∧
  (∀ s : State, s.resetting = some .power → exec .rstPinLow s = .next s)

/-- RESET_COMPLETE during a reset: every block at its reset values, the straps sampled, the newest VALID image loaded, READY
alone in the queue, every NEW node with a descriptor due, and on each enabled line the first of them started; every other entry
has mark NONE and next sequence number 0 (R161, R143, R24, R89, R102, R105, R122, R146). Of two VALID slots the newest is the one with
the higher generation, or slot 0 if they are equal, and without a VALID slot both lines are OFF with the default settings and no
node is loaded (R134, R143, R48). The CRC of a slot is held as whether it is good (the model's choice, log entry 13); the count of store
phases, the model's own, goes on (log entry 30). -/
def Obligations.ResetCompletes : Prop :=
  (∀ x : StoreSlot, x.valid = true ↔ x.mark = true ∧ x.crcGood = true ∧ x.generation ≠ 0 ∧
    x.image.settingsA.inRange = true ∧ x.image.settingsB.inRange = true ∧ (∀ r ∈ x.image.nodes, r.config.inRange = true) ∧
    (x.image.nodes.map NodeRecord.index).Nodup ∧ (x.image.nodes.map fun r => (r.config.line, r.config.address)).Nodup) ∧
  (∀ s : State,
    (∀ newest : SlotId, (s.storeSlot newest).valid = true →
      (∀ other, other ≠ newest → (s.storeSlot other).valid = true →
        (s.storeSlot other).generation.toNat < (s.storeSlot newest).generation.toNat) →
      s.loadedImage = (s.storeSlot newest).image ∧ s.newestGeneration = (s.storeSlot newest).generation) ∧
    (s.storeSlot0.valid = true → s.storeSlot1.valid = true → s.storeSlot0.generation = s.storeSlot1.generation →
      s.loadedImage = s.storeSlot0.image) ∧
    ((∀ slot, (s.storeSlot slot).valid = false) → s.newestGeneration = 0 ∧
      let defaults : LineSettings := { rate := 1, guardTime := 2, recovery := 2000, settle := 10 }
      s.loadedImage = { settingsA := defaults, enabledA := false, settingsB := defaults, enabledB := false, nodes := [] })) ∧
  ∀ (s : State) (cause : ResetCause) (adr1 adr0 : Bool), s.resetting = some cause →
    ∃ t, exec (.resetComplete adr1 adr0) s = .next t ∧
      t = { State.reset with
        strap := BitVec.ofBool adr1 ++ BitVec.ofBool adr0
        generation := s.newestGeneration
        outbound := [.notice (.ready cause s.newestGeneration (BitVec.ofBool adr1 ++ BitVec.ofBool adr0))]
        storeSlot0 := s.storeSlot0, storeSlot1 := s.storeSlot1, storePhases := s.storePhases, pending := s.pending
        nodes := t.nodes, snapshots := t.snapshots, lineA := t.lineA, lineB := t.lineB } ∧
      (∀ i, (∀ l, (match l with | .a => s.loadedImage.enabledA | .b => s.loadedImage.enabledB) = true →
          ∀ e rest, s.loadedImage.dueOn l = e :: rest → e.index ≠ i) →
        t.node i = (s.loadedImage.nodes.find? fun r => r.index = i).map fun r =>
          { config := r.config, state := if r.disabled then .disabled else .new, failures := 0, nextSequence := 0
            lastException := 0, mark := .none, counters := {} }) ∧
      (∀ i, t.snapshot i = (t.node i).map fun _ => {}) ∧
      ∀ l,
        let enabled := match l with | .a => s.loadedImage.enabledA | .b => s.loadedImage.enabledB
        let settings := match l with | .a => s.loadedImage.settingsA | .b => s.loadedImage.settingsB
        let fresh : Line := { settings := settings, enabled := enabled, pinMark := (s.line l).pinMark }
        (enabled = false → t.line l = { fresh with state := .off, dueList := s.loadedImage.dueOn l }) ∧
        (enabled = true → s.loadedImage.dueOn l = [] → t.line l = { fresh with state := .idle }) ∧
        (enabled = true → ∀ e rest, s.loadedImage.dueOn l = e :: rest →
          ∃ r d, r ∈ s.loadedImage.nodes ∧ r.index = e.index ∧ r.config.descriptor = some d ∧
            t.node e.index = some { r.node with nextSequence := 1, mark := .attached } ∧
            t.line l = { fresh with dueList := rest }.startAttempt
              { kind := .poll e.index 0, target := r.config.address, operation := .read d.start d.count, sequence := 0
                allowed := 1 + r.config.retries.toNat, made := 1, timeout := some r.config.timeout, last := none })

/-! ## Line requests -/

/-- LINE SET replaces all four settings of an OFF line and reports a change if one differs; in any other state it is refused
with LINE-ACTIVE and changes nothing (R67). -/
def Obligations.LineSetOnlyWhileOff : Prop :=
  ∀ (s : State) (id : SlotId) (rq : Request) (l : LineId) (settings : LineSettings), s.ready (some .lineSet) id rq →
    lineSetBody rq.body = some (l, settings) →
    ((s.line l).state = .off → exec .lineSet s = .next
      { (s.taken id).setLine l { s.line l with settings := settings } with
        configChanged := s.configChanged || decide (settings ≠ (s.line l).settings)
        changedAfterCapture := s.changedAfterCapture || (decide (settings ≠ (s.line l).settings) && s.saving)
        outbound := s.outbound ++ [.reply { kind := 0x90, tag := rq.tag, status := .ok, data := [lineCode l] }] }) ∧
    ((s.line l).state ≠ .off → exec .lineSet s = .next { s.taken id with
      outbound := s.outbound ++ [.reply { kind := 0x90, tag := rq.tag, status := .lineActive, data := [lineCode l] }] })

/-- LINE ENABLE takes an OFF line to IDLE, marks LINE STATE, reports the change, replies OK, and then the arbiter is asked; in
any other state the reply is OK and nothing changes (R66). -/
def Obligations.LineEnableFromOff : Prop :=
  ∀ (s : State) (id : SlotId) (rq : Request) (l : LineId), s.ready (some .lineEnable) id rq → lineBody rq.body = some l →
    let reply : Message := .reply { kind := 0x91, tag := rq.tag, status := .ok, data := [lineCode l] }
    ((s.line l).state = .off → ∃ u,
      u = ((s.accept id rq).setLine l { s.line l with state := .idle, enabled := true, collisionRun := 0 }).mark (.lineState l) ∧
      exec .lineEnable s = .next (State.askArbiter { u with
        reserved := s.reserved, outbound := u.outbound ++ [reply]
        configChanged := true, changedAfterCapture := s.changedAfterCapture || s.saving } l)) ∧
    ((s.line l).state ≠ .off → exec .lineEnable s = .next { s.taken id with outbound := s.outbound ++ [reply] })

/-- LINE DISABLE takes a line to OFF: its transaction in flight, its demand queue and its scan job end LINE-OFF with their
replies in that order, LINE STATE is marked, the change is reported, and its own OK stands last. Timers, settings, counters,
fault cause, streak and line sequence number stay, a poll in flight is put back first in the due list, and the other line does not
change. The tags of the lost requests leave the registry and their reservations are released; a LINE STATE notice already queued leaves
the mark pending, and no other notice is lost (R65, R41, R80, R97, R118, R157, R158). On an OFF line it only replies OK. -/
def Obligations.LineDisableTakesLineOff : Prop :=
  ∀ (s : State) (id : SlotId) (rq : Request) (l : LineId), s.ready (some .lineDisable) id rq → lineBody rq.body = some l →
    let x := s.line l
    let reply : Message := .reply { kind := 0x92, tag := rq.tag, status := .ok, data := [lineCode l] }
    (x.state ≠ .off → ∃ t ms, exec .lineDisable s = .next t ∧
      t.outbound = s.outbound ++ ms ++ [reply] ∧ repliesOf ms = x.lostReplies l .lineOff ∧
      t.tags = (s.tags.filter fun g => g ∉ (x.lostReplies l .lineOff).map Reply.tag) ∧
      t.reserved = s.reserved - (x.flightReserved + x.queueReserved + x.scanReserved) ∧
      t.Reported (.lineState l) ∧ s.NoticesKept t [.lineState l] ∧
      (s.noticeQueued (.lineState l) = true → Subject.lineState l ∈ t.notices) ∧
      t.line l = { x with
        state := .off, enabled := false, transaction := none, openFrame := none, guardKind := none, frame := [], sent := 0
        echoed := 0, timer := .stopped, elapsed := false, reception := none, collisionRun := 0
        demandQueue := [], scan := none
        dueList := s.dueListAfterLoss l, recoveryTimers := s.recoveryTimersAfterLoss l } ∧
      (∀ j, t.node j = if x.inFlightNode = some j then (s.node j).bind Node.afterLoss else s.node j) ∧
      t = { (s.taken id).setLine l (t.line l) with
        outbound := t.outbound, reserved := t.reserved, tags := t.tags, notices := t.notices, linkErrors := t.linkErrors
        nodes := t.nodes, configChanged := true, changedAfterCapture := s.changedAfterCapture || s.saving }) ∧
    (x.state = .off → exec .lineDisable s = .next { s.taken id with outbound := s.outbound ++ [reply] })

/-- LINE INFO reports the line as it stands, and with its clear flag sets the five counters to 0 after the report (R70). -/
def Obligations.LineInfoReports : Prop :=
  ∀ (s : State) (id : SlotId) (rq : Request) (l : LineId) (clear : Bool), s.ready (some .lineInfo) id rq →
    lineInfoBody rq.body = some (l, clear) →
    let x := s.line l
    exec .lineInfo s = .next
      { (s.taken id).setLine l { x with counters := if clear then {} else x.counters } with
        outbound := s.outbound ++ [.reply
          { kind := 0x93, tag := rq.tag, status := .ok
            data := [lineCode l, x.settings.rate, x.settings.guardTime] ++ halfBytes x.settings.recovery ++
              [x.settings.settle, if x.enabled then 1 else 0, x.state.code, x.faultCause.code] ++
              halfBytes x.counters.stray ++ halfBytes x.counters.noise ++ halfBytes x.counters.framing ++
              halfBytes x.counters.collisions ++ halfBytes x.counters.faults ++
              [byteOf x.demandQueue.length, if x.scan.isSome then 1 else 0] }] }

/-! ## Node requests -/

/-- NODE ADD: DUPLICATE for a line and address in use, TABLE-FULL without a free index, else the lowest free index is put into
use, NEW or DISABLED, with a NEW node with a descriptor due at once and the arbiter asked (R8, R9, R6, R74). -/
def Obligations.NodeAddTakesLowestFreeIndex : Prop :=
  ∀ (s : State) (id : SlotId) (rq : Request) (c : NodeConfig) (disabled : Bool), s.ready (some .nodeAdd) id rq →
    nodeBody rq.body = some (c, disabled) →
    ((∃ j m, s.node j = some m ∧ m.config.line = c.line ∧ m.config.address = c.address) →
      exec .nodeAdd s = .next ((s.accept id rq).queueReply 7
        { kind := 0xA0, tag := rq.tag, status := .duplicate, data := [] })) ∧
    ((∀ j m, s.node j = some m → ¬(m.config.line = c.line ∧ m.config.address = c.address)) →
      ((∀ j, s.node j ≠ none) → exec .nodeAdd s = .next ((s.accept id rq).queueReply 7
        { kind := 0xA0, tag := rq.tag, status := .tableFull, data := [] })) ∧
      ∀ i, s.node i = none → (∀ j, j < i → s.node j ≠ none) →
        let added : State :=
          { ((s.taken id).setNode i (some
              { config := c, state := if disabled then .disabled else .new, failures := 0, nextSequence := 0
                lastException := 0, mark := .none, counters := {} })).setSnapshot i
                  (some { update := 0, record := none }) with
            configChanged := true
            changedAfterCapture := s.changedAfterCapture || s.saving
            outbound := s.outbound ++ [.reply { kind := 0xA0, tag := rq.tag, status := .ok, data := [byteOf i] }] }
        (disabled = false → c.descriptor.isSome = true → exec .nodeAdd s = .next
          ((added.updLine c.line fun x => { x with
            dueList := joinDue x.dueList { index := i, kind := .poll, due := s.partTime } }).askArbiter c.line)) ∧
        (disabled = true ∨ c.descriptor = none → exec .nodeAdd s = .next added))

/-- NODE SET replaces the whole configuration of a DISABLED entry with mark NONE and keeps the rest; it is refused with
NO-SUCH-NODE, NODE-ACTIVE or DUPLICATE, in that order (R10, R7, R23). -/
def Obligations.NodeSetReplacesConfiguration : Prop :=
  ∀ (s : State) (id : SlotId) (rq : Request) (i : Index) (c : NodeConfig), s.ready (some .nodeSet) id rq →
    nodeSetBody rq.body = some (i, c) →
    let reply := fun status => Message.reply { kind := 0xA1, tag := rq.tag, status := status, data := [byteOf i] }
    (s.liveNode i = none → exec .nodeSet s = .next { s.taken id with outbound := s.outbound ++ [reply .noSuchNode] }) ∧
    ∀ n, s.liveNode i = some n →
      (n.state ≠ .disabled ∨ n.mark ≠ .none →
        exec .nodeSet s = .next { s.taken id with outbound := s.outbound ++ [reply .nodeActive] }) ∧
      (n.state = .disabled → n.mark = .none →
        ((∃ j m, j ≠ i ∧ s.node j = some m ∧ m.config.line = c.line ∧ m.config.address = c.address) →
          exec .nodeSet s = .next { s.taken id with outbound := s.outbound ++ [reply .duplicate] }) ∧
        ((∀ j m, j ≠ i → s.node j = some m → ¬(m.config.line = c.line ∧ m.config.address = c.address)) →
          exec .nodeSet s = .next
            { (s.taken id).setNode i (some { n with config := c }) with
              configChanged := s.configChanged || decide (c ≠ n.config)
              changedAfterCapture := s.changedAfterCapture || (decide (c ≠ n.config) && s.saving)
              outbound := s.outbound ++ [reply .ok] }))

/-- NODE REMOVE: the entry is freed, or REMOVING while a transaction refers to it; its timers and its due-list entry go, its
demands are answered NODE-REMOVED before the OK, their tags leave the registry and their reservations are released, its pending
notices are withdrawn, no other notice is lost, and its snapshot is discarded. No other node, snapshot or line changes (R13, R14, R103,
R117, R158). A free or REMOVING index gets NO-SUCH-NODE (R7). That the walk runs whether or not a notice was withdrawn is the model's
choice (log entry 27). -/
def Obligations.NodeRemoveFreesOrWaits : Prop :=
  (∀ (s : State) (i : Index) (n : Node), s.liveNode i = some n ↔ s.node i = some n ∧ n.state ≠ .removing) ∧
  ∀ (s : State) (id : SlotId) (rq : Request) (i : Index), s.ready (some .nodeRemove) id rq → indexBody rq.body = some i →
    let reply := fun status => Message.reply { kind := 0xA2, tag := rq.tag, status := status, data := [byteOf i] }
    (s.liveNode i = none → exec .nodeRemove s = .next { s.taken id with outbound := s.outbound ++ [reply .noSuchNode] }) ∧
    ∀ n, s.liveNode i = some n →
      let l := n.config.line
      let x := s.line l
      ∃ t ms, exec .nodeRemove s = .next t ∧
        t.outbound = s.outbound ++ ms ++ [reply .ok] ∧
        repliesOf ms = (x.demandQueue.filter fun e => e.node = some i).map
          (fun e => demandReply l e.tag e.node e.operation .nodeRemoved []) ∧
        t.tags = (s.tags.filter fun g => g ∉ (repliesOf ms).map Reply.tag) ∧
        t.reserved = s.reserved - ((x.demandQueue.filter fun e => e.node = some i).map DemandEntry.reserved).sum ∧
        State.NoticesKept
          { s with notices := s.notices.filter fun sub => sub ≠ Subject.nodeState i && sub ≠ Subject.change i } t [] ∧
        Subject.nodeState i ∉ t.notices ∧ Subject.change i ∉ t.notices ∧
        t = { (((s.taken id).setNode i (if n.mark = .none then none
                else some { n with state := .removing, mark := .detached })).setSnapshot i none).setLine l
                { x with
                  pollTimers := x.pollTimers.set i.val none i.isLt
                  recoveryTimers := x.recoveryTimers.set i.val none i.isLt
                  dueList := x.dueList.filter fun d => d.index ≠ i
                  demandQueue := x.demandQueue.filter fun e => e.node ≠ some i } with
              outbound := t.outbound, reserved := t.reserved, tags := t.tags, notices := t.notices
              linkErrors := t.linkErrors
              configChanged := true, changedAfterCapture := s.changedAfterCapture || s.saving }

/-- NODE ENABLE takes a DISABLED entry to NEW with failure count 0, marks NODE STATE, reports the change, replies OK, and makes
a node with a descriptor due at once; another live entry only gets OK, and no entry NO-SUCH-NODE (R11, R7, R23). -/
def Obligations.NodeEnableMakesNew : Prop :=
  ∀ (s : State) (id : SlotId) (rq : Request) (i : Index), s.ready (some .nodeEnable) id rq → indexBody rq.body = some i →
    let reply := fun status => Message.reply { kind := 0xA3, tag := rq.tag, status := status, data := [byteOf i] }
    (s.liveNode i = none → exec .nodeEnable s = .next { s.taken id with outbound := s.outbound ++ [reply .noSuchNode] }) ∧
    ∀ n, s.liveNode i = some n →
      (n.state ≠ .disabled → exec .nodeEnable s = .next { s.taken id with outbound := s.outbound ++ [reply .ok] }) ∧
      (n.state = .disabled → ∃ u v,
        u = ((s.accept id rq).setNode i (some { n with state := .new, failures := 0 })).mark (.nodeState i) ∧
        v = { u with
          reserved := s.reserved, outbound := u.outbound ++ [reply .ok]
          configChanged := true, changedAfterCapture := s.changedAfterCapture || s.saving } ∧
        (n.config.descriptor = none → exec .nodeEnable s = .next v) ∧
        (n.config.descriptor.isSome = true → exec .nodeEnable s = .next
          ((v.updLine n.config.line fun x => { x with
            dueList := joinDue x.dueList { index := i, kind := .poll, due := s.partTime } }).askArbiter n.config.line)))

/-- NODE DISABLE takes a live entry to DISABLED with failure count 0 and detaches its transaction; its timers and its due-list
entry go, its demands are answered NODE-DISABLED before the OK, their tags leave the registry and their reservations are released,
and NODE STATE is marked, which leaves it pending where an older notice of it stands in the queue; no other notice is lost. No other
node, no snapshot and no other line changes (R12, R97, R117, R158). An entry already DISABLED only gets OK, and no entry NO-SUCH-NODE. -/
def Obligations.NodeDisableWithholdsNode : Prop :=
  ∀ (s : State) (id : SlotId) (rq : Request) (i : Index), s.ready (some .nodeDisable) id rq → indexBody rq.body = some i →
    let reply := fun status => Message.reply { kind := 0xA4, tag := rq.tag, status := status, data := [byteOf i] }
    (s.liveNode i = none → exec .nodeDisable s = .next { s.taken id with outbound := s.outbound ++ [reply .noSuchNode] }) ∧
    ∀ n, s.liveNode i = some n →
      (n.state = .disabled → exec .nodeDisable s = .next { s.taken id with outbound := s.outbound ++ [reply .ok] }) ∧
      (n.state ≠ .disabled →
        let l := n.config.line
        let x := s.line l
        ∃ t ms, exec .nodeDisable s = .next t ∧
          t.outbound = s.outbound ++ ms ++ [reply .ok] ∧
          repliesOf ms = (x.demandQueue.filter fun e => e.node = some i).map
            (fun e => demandReply l e.tag e.node e.operation .nodeDisabled []) ∧
          t.tags = (s.tags.filter fun g => g ∉ (repliesOf ms).map Reply.tag) ∧
          t.reserved = s.reserved - ((x.demandQueue.filter fun e => e.node = some i).map DemandEntry.reserved).sum ∧
          t.Reported (.nodeState i) ∧ s.NoticesKept t [.nodeState i] ∧
          (s.noticeQueued (.nodeState i) = true → Subject.nodeState i ∈ t.notices) ∧
          t = { ((s.taken id).setNode i (some
                  { n with
                    state := .disabled, failures := 0
                    mark := if n.mark = .attached then .detached else n.mark })).setLine l
                  { x with
                    pollTimers := x.pollTimers.set i.val none i.isLt
                    recoveryTimers := x.recoveryTimers.set i.val none i.isLt
                    dueList := x.dueList.filter fun d => d.index ≠ i
                    demandQueue := x.demandQueue.filter fun e => e.node ≠ some i } with
                outbound := t.outbound, reserved := t.reserved, tags := t.tags, notices := t.notices
                linkErrors := t.linkErrors
                configChanged := true, changedAfterCapture := s.changedAfterCapture || s.saving })

/-- NODE INFO reports the entry as it stands, and with its clear flag sets the five counters to 0 after the report; no entry
gets NO-SUCH-NODE (R15, R7, R164). The node flags' unstated bits are 0 (the model's choice, log entry 28). -/
def Obligations.NodeInfoReports : Prop :=
  ∀ (s : State) (id : SlotId) (rq : Request) (i : Index) (clear : Bool), s.ready (some .nodeInfo) id rq →
    nodeInfoBody rq.body = some (i, clear) →
    (s.liveNode i = none → exec .nodeInfo s = .next ((s.accept id rq).queueReply 32
      { kind := 0xA5, tag := rq.tag, status := .noSuchNode, data := [byteOf i] })) ∧
    ∀ n, s.liveNode i = some n →
      let d := n.config.descriptor.getD { start := 0, count := 0 }
      exec .nodeInfo s = .next
        { (s.taken id).setNode i (some { n with counters := if clear then {} else n.counters }) with
          outbound := s.outbound ++ [.reply
            { kind := 0xA5, tag := rq.tag, status := .ok
              data := [byteOf i, n.config.address, lineCode n.config.line,
                  (if n.config.descriptor.isSome then 1 else 0) ||| (if n.config.notify then 4 else 0)] ++
                halfBytes d.start ++ [d.count] ++ halfBytes n.config.period ++
                [n.config.timeout, n.config.retries, n.config.limit] ++ n.state.code.toList ++
                [byteOf n.failures, n.nextSequence, n.lastException] ++
                halfBytes n.counters.good ++ halfBytes n.counters.timeouts ++ halfBytes n.counters.corrupt ++
                halfBytes n.counters.exceptions ++ halfBytes n.counters.latePolls }] }

/-- READ SNAPSHOT reports freshness, age, update number and payload, and changes nothing else; no entry gets NO-SUCH-NODE
(R93, R94, R95). -/
def Obligations.ReadSnapshotReports : Prop :=
  ∀ (s : State) (id : SlotId) (rq : Request) (i : Index), s.ready (some .readSnapshot) id rq → indexBody rq.body = some i →
    (s.liveNode i = none → exec .readSnapshot s = .next ((s.accept id rq).queueReply 61
      { kind := 0xB0, tag := rq.tag, status := .noSuchNode, data := [byteOf i] })) ∧
    ∀ n x, s.liveNode i = some n → s.snapshot i = some x →
      (x.record = none → exec .readSnapshot s = .next ((s.accept id rq).queueReply 61
        { kind := 0xB0, tag := rq.tag, status := .ok, data := [byteOf i, 0, 0, 0, 0, 0, 0] })) ∧
      ∀ r, x.record = some r →
        let age := (s.partTime - r.captured).toNat
        let fresh := (n.state = .online ∨ n.state = .suspect) ∧ age ≤ 4 * n.config.period.toNat ∧ r.agedOut = false
        exec .readSnapshot s = .next ((s.accept id rq).queueReply 61
          { kind := 0xB0, tag := rq.tag, status := .ok
            data := [byteOf i, if fresh then 1 else 2] ++
              halfBytes (BitVec.ofNat 16 (if r.agedOut then 65535 else min age 65535)) ++ halfBytes x.update ++
              [byteOf r.payload.length] ++ r.payload })

/-! ## Demands, broadcasts and cancellation -/

/-- DEMAND: TAG-IN-USE, then NO-SUCH-NODE, NODE-DOWN or NODE-DISABLED, then LINE-OFF, LINE-FAULT or QUEUE-FULL; else its tag
joins the registry, its entry joins the tail of the demand queue of the node's line with its reservation standing, no reply is queued,
and the arbiter is asked (R109, R110, R22, R108, R121). -/
def Obligations.DemandQueuedOrRefused : Prop :=
  ∀ (s : State) (id : SlotId) (rq : Request) (i : Index) (op : Operation), s.ready (some .demand) id rq →
    demandBody rq.body = some (i, op) →
    let refused := fun status => exec .demand s = .next ((s.accept id rq).queueReply rq.reservation
      { kind := 0xC0, tag := rq.tag, status := status, data := [byteOf i, op.code] })
    rq.reservation = op.largestReply ∧
    (rq.tag ∈ s.tags → refused .tagInUse) ∧
    (rq.tag ∉ s.tags →
      (s.liveNode i = none → refused .noSuchNode) ∧
      ∀ n, s.liveNode i = some n →
        let l := n.config.line
        let x := s.line l
        (n.state = .offline → refused .nodeDown) ∧
        (n.state = .disabled → refused .nodeDisabled) ∧
        (n.state = .new ∨ n.state = .online ∨ n.state = .suspect →
          (x.state = .off → refused .lineOff) ∧
          (x.state = .fault → refused .lineFault) ∧
          (x.state ≠ .off → x.state ≠ .fault →
            (8 ≤ x.demandQueue.length → refused .queueFull) ∧
            (x.demandQueue.length < 8 → exec .demand s = .next (State.askArbiter
              { (s.taken id).setLine l { x with demandQueue := x.demandQueue ++
                  [{ tag := rq.tag, node := some i, operation := op, reserved := op.largestReply }] } with
                reserved := s.reserved + op.largestReply
                tags := s.tags ++ [rq.tag] } l)))))

/-- BROADCAST: TAG-IN-USE, LINE-OFF, LINE-FAULT or QUEUE-FULL, in that order; else its tag joins the registry, its entry joins
the tail of the line's demand queue with its reservation standing, no reply is queued, and the arbiter is asked (R114, R108, R121). -/
def Obligations.BroadcastQueuedOrRefused : Prop :=
  ∀ (s : State) (id : SlotId) (rq : Request) (l : LineId) (op : Operation), s.ready (some .broadcast) id rq →
    broadcastBody rq.body = some (l, op) →
    let x := s.line l
    let refused := fun status => exec .broadcast s = .next { s.taken id with
      outbound := s.outbound ++ [.reply { kind := 0xC1, tag := rq.tag, status := status, data := [lineCode l] }] }
    (rq.tag ∈ s.tags → refused .tagInUse) ∧
    (rq.tag ∉ s.tags →
      (x.state = .off → refused .lineOff) ∧
      (x.state = .fault → refused .lineFault) ∧
      (x.state ≠ .off → x.state ≠ .fault →
        (8 ≤ x.demandQueue.length → refused .queueFull) ∧
        (x.demandQueue.length < 8 → exec .broadcast s = .next (State.askArbiter
          { (s.taken id).setLine l { x with demandQueue := x.demandQueue ++
              [{ tag := rq.tag, node := none, operation := op, reserved := 7 }] } with
            reserved := s.reserved + 7
            tags := s.tags ++ [rq.tag] } l))))

/-- CANCEL: a queued entry leaves its queue, its CANCELLED reply is queued and its tag leaves the registry, and then OK is
queued; a tag in flight gets TOO-LATE, any other NOT-FOUND, and neither changes anything (R119). -/
def Obligations.CancelReachesQueuedOnly : Prop :=
  ∀ (s : State) (id : SlotId) (rq : Request) (target : Byte), s.ready (some .cancel) id rq → rq.body = [target] →
    let reply := fun status => Message.reply { kind := 0xC2, tag := rq.tag, status := status, data := [target] }
    let inFlight := fun l => ∃ t, (s.line l).transaction = some t ∧ t.kind.tag = some target
    (∀ l before e after, (s.line l).demandQueue = before ++ e :: after → e.tag = target →
      (∀ q ∈ before, q.tag ≠ target) → (l = .b → ∀ q ∈ s.lineA.demandQueue, q.tag ≠ target) → ∃ u,
        u = State.queueReply
          { (s.accept id rq).setLine l { s.line l with demandQueue := before ++ after } with
            tags := s.tags.filter fun t => t ≠ target }
          e.reserved (demandReply l target e.node e.operation .cancelled []) ∧
        exec .cancel s = .next { u with reserved := u.reserved - 7, outbound := u.outbound ++ [reply .ok] }) ∧
    ((∀ l, ∀ q ∈ (s.line l).demandQueue, q.tag ≠ target) →
      ((∃ l, inFlight l) → exec .cancel s = .next { s.taken id with outbound := s.outbound ++ [reply .tooLate] }) ∧
      ((∀ l, ¬inFlight l) → exec .cancel s = .next { s.taken id with outbound := s.outbound ++ [reply .notFound] }))

/-! ## Scans -/

/-- SCAN START: TAG-IN-USE, LINE-OFF, LINE-FAULT or BUSY, in that order; else the job is created with its tag registered and its
57 bytes standing, no reply is queued, and the arbiter is asked (R124, R125, R123). -/
def Obligations.ScanStartCreatesJob : Prop :=
  ∀ (s : State) (id : SlotId) (rq : Request) (l : LineId) (first last timeout : Byte), s.ready (some .scanStart) id rq →
    scanStartBody rq.body = some (l, first, last, timeout) →
    let x := s.line l
    let job : ScanJob :=
      { tag := rq.tag, first := first, last := last, timeout := timeout, next := first, probe := none, lastProbed := 0
        found := [], abort := false }
    let refused := fun status => exec .scanStart s = .next ((s.accept id rq).queueReply 57
      { kind := 0xD0, tag := rq.tag, status := status, data := [lineCode l] })
    (rq.tag ∈ s.tags → refused .tagInUse) ∧
    (rq.tag ∉ s.tags →
      (x.state = .off → refused .lineOff) ∧
      (x.state = .fault → refused .lineFault) ∧
      (x.state ≠ .off → x.state ≠ .fault →
        (x.scan ≠ none → refused .busy) ∧
        (x.scan = none → exec .scanStart s = .next (State.askArbiter
          { (s.taken id).setLine l { x with scan := some job } with
            reserved := s.reserved + 57
            tags := s.tags ++ [rq.tag] } l))))

/-- SCAN ABORT: NO-SCAN without a job; a job with no probe in flight ends ABORTED, its reply before the OK; a job with a probe in
flight has its flag set, and OK is queued (R131). -/
def Obligations.ScanAbortEndsOrFlagsJob : Prop :=
  ∀ (s : State) (id : SlotId) (rq : Request) (l : LineId), s.ready (some .scanAbort) id rq → lineBody rq.body = some l →
    let x := s.line l
    let reply := fun status => Message.reply { kind := 0xD1, tag := rq.tag, status := status, data := [lineCode l] }
    (x.scan = none → exec .scanAbort s = .next { s.taken id with outbound := s.outbound ++ [reply .noScan] }) ∧
    ∀ j, x.scan = some j →
      (j.probe = none → ∃ u,
        u = State.queueReply
          { (s.accept id rq).setLine l { x with scan := none } with tags := s.tags.filter fun t => t ≠ j.tag } 57
          { kind := 0xD0, tag := j.tag, status := .aborted
            data := [lineCode l, j.lastProbed, byteOf j.found.length] ++
              j.found.flatMap fun f => f.address :: halfBytes f.nodeType } ∧
        exec .scanAbort s = .next { u with reserved := u.reserved - 7, outbound := u.outbound ++ [reply .ok] }) ∧
      (∀ a, j.probe = some a → exec .scanAbort s = .next
        { (s.taken id).setLine l { x with scan := some { j with abort := true } } with
          outbound := s.outbound ++ [reply .ok] })

/-! ## Store requests -/

/-- STORE SAVE: TAG-IN-USE, then BUSY; else the configuration is captured, and the write of the target slot starts by clearing
its mark, with one generation more than the newest VALID image; without a higher generation the job ends at once with
STORE-FAILED and generation 0, and no slot is touched (R137, R135, R139). The count of phases is the model's own (log entry 30). -/
def Obligations.StoreSaveStartsWrite : Prop :=
  ∀ (s : State) (id : SlotId) (rq : Request), s.ready (some .storeSave) id rq → rq.body = [] →
    let refused := fun status => exec .storeSave s = .next ((s.accept id rq).queueReply 10
      { kind := 0xE0, tag := rq.tag, status := status, data := [] })
    let image : Image :=
      { settingsA := s.lineA.settings, enabledA := s.lineA.enabled
        settingsB := s.lineB.settings, enabledB := s.lineB.enabled
        nodes := allIndices.filterMap fun i => (s.liveNode i).map fun n =>
          { index := i, config := n.config, disabled := decide (n.state = .disabled) } }
    let valid := fun (slot : SlotId) => (s.storeSlot slot).valid = true
    let generation := fun (slot : SlotId) => (s.storeSlot slot).generation
    (rq.tag ∈ s.tags → refused .tagInUse) ∧
    (rq.tag ∉ s.tags → s.storeJob ≠ none → refused .busy) ∧
    (rq.tag ∉ s.tags → s.storeJob = none → ∀ (target : SlotId) (newest : Word),
      (¬valid .s0 ∧ ¬valid .s1 ∧ target = .s0 ∧ newest = 0) ∨
      (valid .s0 ∧ ¬valid .s1 ∧ target = .s1 ∧ newest = generation .s0) ∨
      (¬valid .s0 ∧ valid .s1 ∧ target = .s0 ∧ newest = generation .s1) ∨
      (valid .s0 ∧ valid .s1 ∧ (generation .s0).toNat < (generation .s1).toNat ∧ target = .s0 ∧ newest = generation .s1) ∨
      (valid .s0 ∧ valid .s1 ∧ (generation .s1).toNat < (generation .s0).toNat ∧ target = .s1 ∧ newest = generation .s0) →
      (newest ≠ 0xFFFFFFFF → exec .storeSave s = .next
        { (s.taken id).setStoreSlot target { s.storeSlot target with mark := false } with
          reserved := s.reserved + 10
          tags := s.tags ++ [rq.tag]
          storeJob := some (.save rq.tag .write image target (newest + 1))
          storePhases := s.storePhases + 1
          changedAfterCapture := false }) ∧
      (newest = 0xFFFFFFFF → exec .storeSave s = .next { s.taken id with
        changedAfterCapture := false
        outbound := s.outbound ++ [.reply { kind := 0xE0, tag := rq.tag, status := .storeFailed, data := [0, 0, 0, 0] }] }))

/-- STORE ERASE: TAG-IN-USE, then BUSY; without a VALID slot OK at once; else the invalidation of the VALID slot, or of the
older of two, starts by clearing its mark, and the current generation becomes 0 if that slot holds it (R140). The count of phases is the
model's own (log entry 30). -/
def Obligations.StoreEraseStartsInvalidation : Prop :=
  ∀ (s : State) (id : SlotId) (rq : Request), s.ready (some .storeErase) id rq → rq.body = [] →
    let reply := fun status => exec .storeErase s = .next { s.taken id with
      outbound := s.outbound ++ [.reply { kind := 0xE1, tag := rq.tag, status := status, data := [] }] }
    let valid := fun (slot : SlotId) => (s.storeSlot slot).valid = true
    let generation := fun (slot : SlotId) => (s.storeSlot slot).generation
    (rq.tag ∈ s.tags → reply .tagInUse) ∧
    (rq.tag ∉ s.tags → s.storeJob ≠ none → reply .busy) ∧
    (rq.tag ∉ s.tags → s.storeJob = none →
      (¬valid .s0 → ¬valid .s1 → reply .ok) ∧
      ∀ (slot : SlotId) (rest : List SlotId),
        (valid .s0 ∧ ¬valid .s1 ∧ slot = .s0 ∧ rest = []) ∨
        (¬valid .s0 ∧ valid .s1 ∧ slot = .s1 ∧ rest = []) ∨
        (valid .s0 ∧ valid .s1 ∧ (generation .s0).toNat < (generation .s1).toNat ∧ slot = .s0 ∧ rest = [.s1]) ∨
        (valid .s0 ∧ valid .s1 ∧ (generation .s1).toNat < (generation .s0).toNat ∧ slot = .s1 ∧ rest = [.s0]) →
        exec .storeErase s = .next
          { (s.taken id).setStoreSlot slot { s.storeSlot slot with mark := false } with
            reserved := s.reserved + 6
            tags := s.tags ++ [rq.tag]
            generation := if generation slot = s.generation then 0 else s.generation
            storeJob := some (.erase rq.tag slot rest (decide (generation slot = s.generation)))
            storePhases := s.storePhases + 1 })

/-! ## The host link -/

/-- A write to the device's address takes a FREE slot and is acknowledged, or finds none and is ignored; another address is
ignored. A start within a transaction ends that transaction first. Each data byte is stored and acknowledged up to 63, and then
only sets the over-length mark (R145, R147, R148). Slot 0 is taken first of two FREE ones (the model's choice, log entry 7);
linkAck is the model's own field for the acknowledge bit (log entry 16). The device's address is 0x3A plus the strap value. -/
def Obligations.WriteTransactionFillsSlot : Prop :=
  (∀ s : State, s.targetAddress.toNat = 0x3A + s.strap.toNat) ∧
  (∀ (s : State) (address : BitVec 7), s.resetting = none → s.link = .none →
    let start := exec (.writeTransactionStart address) s
    (address = s.targetAddress →
      (s.slot0 = .free → start = .next { s with slot0 := .filling [], link := .write .s0 false, linkAck := true }) ∧
      (s.slot0 ≠ .free → s.slot1 = .free →
        start = .next { s with slot1 := .filling [], link := .write .s1 false, linkAck := true }) ∧
      (s.slot0 ≠ .free → s.slot1 ≠ .free → start = .next { s with linkAck := false })) ∧
    (address ≠ s.targetAddress → start = .next { s with linkAck := false })) ∧
  (∀ (s u : State) (address : BitVec 7), s.resetting = none →
    (∀ id overLength, s.link = .write id overLength → exec .writeTransactionEnd s = .next u →
      exec (.writeTransactionStart address) s = exec (.writeTransactionStart address) u) ∧
    (∀ message sent, s.link = .read message sent → exec .readTransactionEnd s = .next u →
      exec (.writeTransactionStart address) s = exec (.writeTransactionStart address) u)) ∧
  (∀ (s : State) (id : SlotId) (overLength : Bool) (bytes : List Byte) (data : Byte), s.resetting = none →
    s.link = .write id overLength → s.slot id = .filling bytes →
    (bytes.length < 63 → exec (.writeDataByte data) s =
      .next { s.setSlot id (.filling (bytes ++ [data])) with linkAck := true }) ∧
    (63 ≤ bytes.length → exec (.writeDataByte data) s = .next { s with link := .write id true, linkAck := false }))

/-- A write ends: an empty slot becomes FREE and nothing is counted; a frame with LEN 5..63 equal to the byte count and a good
CRC becomes FULL at the tail of the slot order; anything else, and any over-length write, is rejected: the slot becomes FREE, the
link error count rises to at most 255, and LINK ERROR is marked (R148, R162, R101). -/
def Obligations.WriteEndChecksFrame : Prop :=
  ∀ (s : State) (id : SlotId) (overLength : Bool) (bytes : List Byte), s.resetting = none → s.link = .write id overLength →
    s.slot id = .filling bytes →
    let good := ∃ kind tag body, body.length ≤ 58 ∧ bytes = withCrc (byteOf (5 + body.length) :: kind :: tag :: body)
    let freed : State := { s.setSlot id .free with link := .none }
    (bytes = [] → overLength = false → exec .writeTransactionEnd s = .next freed) ∧
    (good → overLength = false → exec .writeTransactionEnd s =
      .next { s.setSlot id (.full bytes) with link := .none, slotOrder := s.slotOrder ++ [id] }) ∧
    (overLength = true ∨ bytes ≠ [] ∧ ¬good → exec .writeTransactionEnd s = .next
      (State.mark { freed with linkErrors := if s.linkErrors = 255 then 255 else s.linkErrors + 1 } .linkError))

/-- A read of the device's address fixes the head message, or finds the queue empty, and is always acknowledged; it then sends the
message from its LEN byte, or 0x00, and 0xFF for every further byte. A start within a transaction ends that transaction first
(R145, R149, R150). The bytes of a reply and of each notice are LEN, KIND, TAG, the body, which in a reply begins with the status,
and the CRC, with the codes of the tables (R162, R165, R166). ATTN# is asserted while the queue holds a message (R152). linkAck and
linkByte are the model's own fields for what the device drives (log entry 16). -/
def Obligations.ReadTransactionSendsHead : Prop :=
  (∀ (s : State) (address : BitVec 7), s.resetting = none → s.link = .none →
    (address = s.targetAddress → exec (.readTransactionStart address) s =
      .next { s with link := .read s.outbound.head? 0, linkAck := true }) ∧
    (address ≠ s.targetAddress → exec (.readTransactionStart address) s = .next { s with linkAck := false })) ∧
  (∀ (s u : State) (address : BitVec 7), s.resetting = none →
    (∀ id overLength, s.link = .write id overLength → exec .writeTransactionEnd s = .next u →
      exec (.readTransactionStart address) s = exec (.readTransactionStart address) u) ∧
    (∀ message sent, s.link = .read message sent → exec .readTransactionEnd s = .next u →
      exec (.readTransactionStart address) s = exec (.readTransactionStart address) u)) ∧
  (∀ (s : State) (message : Option Message) (sent : Nat), s.resetting = none → s.link = .read message sent →
    let sends := fun byte => exec .readByteClocked s = .next { s with link := .read message (sent + 1), linkByte := byte }
    (∀ m b, message = some m → m.bytes[sent]? = some b → sends b) ∧
    (∀ m, message = some m → m.bytes.length ≤ sent → sends 0xFF) ∧
    (message = none → sent = 0 → sends 0x00) ∧
    (message = none → 0 < sent → sends 0xFF)) ∧
  (∀ s : State, s.resetting = none → (s.attention = true ↔ s.outbound ≠ [])) ∧
  (∀ r : Reply, (Message.reply r).bytes = withCrc ([byteOf (6 + r.data.length), r.kind, r.tag, r.status.code] ++ r.data)) ∧
  (∀ cause generation strap, (Message.notice (.ready cause generation strap)).bytes =
    withCrc ([11, 0xF0, 0, cause.code] ++ wordBytes generation ++ [strap.setWidth 8])) ∧
  (∀ i address l state code, state.code = some code → (Message.notice (.nodeState i address l state)).bytes =
    withCrc [9, 0xF1, 0, byteOf i, address, lineCode l, code]) ∧
  (∀ i address update, (Message.notice (.change i address update)).bytes =
    withCrc ([9, 0xF2, 0, byteOf i, address] ++ halfBytes update)) ∧
  (∀ l state cause, (Message.notice (.lineState l state cause)).bytes =
    withCrc [8, 0xF3, 0, lineCode l, state.code, cause.code]) ∧
  (∀ count, (Message.notice (.linkError count)).bytes = withCrc [6, 0xF4, 0, count]) ∧
  [Status.ok, .unknownKind, .badBody, .tagInUse, .noSuchNode, .duplicate, .tableFull, .nodeActive, .nodeDisabled, .nodeDown,
    .nodeRemoved, .lineOff, .lineFault, .lineActive, .queueFull, .timeout, .corrupt, .collision, .exception, .cancelled, .notFound,
    .tooLate, .busy, .noScan, .aborted, .listFull, .storeFailed].map Status.code =
    [0x00, 0x01, 0x02, 0x03, 0x10, 0x11, 0x12, 0x13, 0x14, 0x15, 0x16, 0x20, 0x21, 0x22, 0x23, 0x30, 0x31, 0x32, 0x33, 0x40, 0x41,
      0x42, 0x50, 0x51, 0x52, 0x53, 0x60] ∧
  [LineId.a, .b].map lineCode = [0, 1] ∧
  [NodeState.new, .online, .suspect, .offline, .disabled].map NodeState.code = [some 0, some 1, some 2, some 3, some 4] ∧
  [LineState.off, .idle, .sending, .waiting, .receiving, .guard, .fault].map LineState.code = [0, 1, 2, 3, 4, 5, 6] ∧
  [FaultCause.none, .stuck, .collisions].map FaultCause.code = [0, 1, 2] ∧
  [ResetCause.power, .pin, .request].map ResetCause.code = [1, 2, 3] ∧
  (∀ start count data, [Operation.ping, .read start count, .write start count data].map Operation.code = [1, 2, 3])

/-- A read ends: a message whose every byte was sent is removed, and the admission walk runs; otherwise the queue stays as it
is (R150, R99). -/
def Obligations.ReadEndRemovesWholeMessage : Prop :=
  ∀ (s : State) (message : Option Message) (sent : Nat), s.resetting = none → s.link = .read message sent →
    (∀ m, message = some m → m.bytes.length ≤ sent → exec .readTransactionEnd s =
      .next (State.walk { s with link := .none, outbound := s.outbound.tail })) ∧
    (∀ m, message = some m → sent < m.bytes.length → exec .readTransactionEnd s = .next { s with link := .none }) ∧
    (message = none → exec .readTransactionEnd s = .next { s with link := .none })

/-- A stalled write is rejected whatever its byte count, a stalled read removes nothing, and SDA is released. Without a
transaction the timer does not run, and a stop that comes then has no effect (R151, R101). The released SDA shows in the model's own
fields linkAck and linkByte (log entry 16). -/
def Obligations.StalledTransactionAbandoned : Prop :=
  ∀ s : State, s.resetting = none →
    let released : State := { s with link := .none, linkAck := false, linkByte := 0xFF }
    (∀ id overLength, s.link = .write id overLength → exec .stallTimerExpiry s = .next (State.mark
      { released.setSlot id .free with linkErrors := if s.linkErrors = 255 then 255 else s.linkErrors + 1 } .linkError)) ∧
    (∀ message sent, s.link = .read message sent → exec .stallTimerExpiry s = .next released) ∧
    (s.link = .none → exec .stallTimerExpiry s = .next s ∧ exec .writeTransactionEnd s = .next s ∧
      exec .readTransactionEnd s = .next s)

/-! ## Part time -/

/-- A tick increases part time by 1, from 4294967295 to 0, and changes nothing else; no other command changes part time but
the RESET_COMPLETE of a reset, after which it is 0 (R71). The tick is stated out of reset: during one it is withheld (the model's
choice, log entry 15). -/
def Obligations.TickAloneMovesPartTime : Prop :=
  (∀ s : State, s.resetting = none → exec .partTimeTick s = .next { s with partTime := s.partTime + 1 }) ∧
  (∀ (c : Instr) (s t : State), exec c s = .next t →
    t.partTime = s.partTime ∨ c = .partTimeTick ∨ (t.partTime = 0 ∧ ∃ adr1 adr0, c = .resetComplete adr1 adr0)) ∧
  (∀ (s : State) (cause : ResetCause) (adr1 adr0 : Bool), s.resetting = some cause →
    ∃ t, exec (.resetComplete adr1 adr0) s = .next t ∧ t.partTime = 0)

/-- A poll or recovery timer expires at the millisecond at which part time equals its due time: it stops, its node joins the due
list behind every entry due earlier or with a lower index, and the arbiter is asked. At any other millisecond, or for a stopped
timer, nothing happens (R72, R74, R75, R76, R81; the row at another millisecond: log entry 5). Every entry that joins takes that place;
that an entry with a lower index joins ahead of a poll put back in this same millisecond is the model's choice (log entry 29). -/
def Obligations.TimerExpiryJoinsDueList : Prop :=
  (∀ (due : List DueEntry) (e : DueEntry),
    let ahead := fun (d : DueEntry) =>
      decide (1 ≤ (e.due - d.due).toNat ∧ (e.due - d.due).toNat ≤ 2147483647) || (e.due = d.due && d.index.val ≤ e.index.val)
    joinDue due e = due.takeWhile ahead ++ e :: due.dropWhile ahead) ∧
  ∀ (s : State) (i : Index) (n : Node) (kind : DueKind), s.resetting = none → s.node i = some n →
    let l := n.config.line
    let x := s.line l
    let ahead := fun (d : DueEntry) =>
      decide (1 ≤ (s.partTime - d.due).toNat ∧ (s.partTime - d.due).toNat ≤ 2147483647) ||
        (s.partTime = d.due && d.index.val ≤ i.val)
    let joined := x.dueList.takeWhile ahead ++
      { index := i, kind := kind, due := s.partTime } :: x.dueList.dropWhile ahead
    let row := match kind with | .poll => Instr.pollTimerExpiry i.val | .recovery => Instr.recoveryTimerExpiry i.val
    let timer := match kind with | .poll => x.pollTimers.get i | .recovery => x.recoveryTimers.get i
    let stopped : Line := match kind with
      | .poll => { x with pollTimers := x.pollTimers.set i.val none i.isLt }
      | .recovery => { x with recoveryTimers := x.recoveryTimers.set i.val none i.isLt }
    (timer = some s.partTime → exec row s = .next ((s.setLine l { stopped with dueList := joined }).askArbiter l)) ∧
    (timer ≠ some s.partTime → exec row s = .next s)

/-- A due-list entry that has fallen more than 60000 ms behind part time is advanced to stand 60000 ms behind it, by 1 ms when it
was 60001 behind, and keeps its place (R78, log entry 20); a snapshot record whose age is 240000 ms has its aged-out indicator
set (R93). Nothing else changes, and at any other millisecond nothing does (log entry 5). -/
def Obligations.WaitingEntriesAge : Prop :=
  (∀ (s : State) (i : Index) (n : Node), s.resetting = none → s.node i = some n →
    exec (.dueTimeAdvance i.val) s = .next (s.updLine n.config.line fun x => { x with
      dueList := x.dueList.map fun d =>
        if d.index = i ∧ 60000 < (s.partTime - d.due).toNat ∧ (s.partTime - d.due).toNat ≤ 2147483647 then
          { d with due := s.partTime - 60000 }
        else d })) ∧
  (∀ (s : State) (i : Index) (n : Node) (x : Snapshot) (r : SnapshotRecord), s.resetting = none → s.node i = some n →
    s.snapshot i = some x → x.record = some r →
    (s.partTime - r.captured = 240000 → exec (.snapshotAgeOut i.val) s =
      .next (s.setSnapshot i (some { x with record := some { r with agedOut := true } }))) ∧
    (s.partTime - r.captured ≠ 240000 → exec (.snapshotAgeOut i.val) s = .next s))

/-! ## The field lines -/

/-- The response timeout in WAITING ends the attempt TIMEOUT; in RECEIVING, and in SENDING after the last stop bit, its expiry is
held off, and only its passing is kept; a stopped timer does not expire (R31, R36, R57). The field that keeps it, elapsed, is the
model's own (log entry 6). A gap in an open frame closes it, and in RECEIVING ends the attempt CORRUPT;
without an open frame, or while a character is being received, there is no gap (R34, R54). -/
def Obligations.AttemptTimersExpire : Prop :=
  ∀ (s : State) (l : LineId), s.resetting = none →
    let x := s.line l
    (∀ t, x.state = .waiting → x.timer = .running → x.transaction = some t →
      exec (.responseTimerExpiry l) s = .next (s.endAttempt l .timeout .guardTime)) ∧
    (x.state = .receiving → x.timer = .halted → exec (.responseTimerExpiry l) s =
      .next (s.setLine l { x with elapsed := true })) ∧
    (x.state = .sending → x.timer = .running → exec (.responseTimerExpiry l) s =
      .next (s.setLine l { x with elapsed := true })) ∧
    (x.timer = .stopped → exec (.responseTimerExpiry l) s = .next s) ∧
    (∀ bytes, x.openFrame = some bytes → x.reception = none →
      (x.state = .receiving → exec (.frameGapExpiry l) s =
        .next ((s.setLine l { x with openFrame := none }).endAttempt l .corrupt .guardTime)) ∧
      (x.state ≠ .receiving → exec (.frameGapExpiry l) s = .next (s.setLine l { x with openFrame := none }))) ∧
    (x.openFrame = none ∨ x.reception ≠ none → exec (.frameGapExpiry l) s = .next s)

/-- An echo that is missing at its deadline counts a collision: the attempt ends COLLISION, or the fourth consecutive one takes
the line to FAULT with cause COLLISIONS. With no echo outstanding there is no deadline (R52, R29, R42, R61, R63). -/
def Obligations.MissingEchoIsCollision : Prop :=
  ∀ (s : State) (l : LineId), s.resetting = none →
    let x := s.line l
    let counted := s.setLine l { x with
      collisionRun := x.collisionRun + 1
      counters := { x.counters with collisions := countUp x.counters.collisions } }
    (x.state = .sending → x.echoed < x.sent →
      (x.collisionRun < 3 → exec (.echoDeadlineExpiry l) s = .next (counted.endAttempt l .collision .guardTime)) ∧
      (3 ≤ x.collisionRun → exec (.echoDeadlineExpiry l) s = .next (counted.enterFault l .collisions))) ∧
    (x.state ≠ .sending ∨ x.sent ≤ x.echoed → exec (.echoDeadlineExpiry l) s = .next s)

/-- Space for 20 character times takes a watched line to FAULT with cause STUCK. Entry into FAULT ends the transaction in
flight, the demand queue and the scan job LINE-FAULT, with their replies in that order; it sets the cause, counts the fault,
clears the run of collisions and marks LINE STATE, which leaves it pending where an older notice of it stands in the queue; no other
notice is lost; a poll in flight is put back first in the due list, the tags of the lost requests leave the registry and their
reservations are released. The other line does not change (R60, R62, R41, R80, R97, R118, R157, R158). -/
def Obligations.StuckSpaceEntersFault : Prop :=
  (∀ (s : State) (l : LineId), s.resetting = none →
    let x := s.line l
    (x.state ≠ .off → x.state ≠ .fault → x.pinMark = false →
      exec (.stuckSpaceExpiry l) s = .next (s.enterFault l .stuck)) ∧
    (x.state = .off ∨ x.state = .fault ∨ x.pinMark = true → exec (.stuckSpaceExpiry l) s = .next s)) ∧
  (∀ (s : State) (l : LineId) (cause : FaultCause),
    let x := s.line l
    let t := s.enterFault l cause
    (∃ ms, t.outbound = s.outbound ++ ms ∧ repliesOf ms = x.lostReplies l .lineFault) ∧
    t.tags = (s.tags.filter fun g => g ∉ (x.lostReplies l .lineFault).map Reply.tag) ∧
    t.reserved = s.reserved - (x.flightReserved + x.queueReserved + x.scanReserved) ∧
    t.Reported (.lineState l) ∧ s.NoticesKept t [.lineState l] ∧
    (s.noticeQueued (.lineState l) = true → Subject.lineState l ∈ t.notices) ∧
    (∀ j, t.node j = if x.inFlightNode = some j then (s.node j).bind Node.afterLoss else s.node j) ∧
    t = { s.setLine l
            { x with
              state := .fault, transaction := none, openFrame := none, guardKind := none, frame := [], sent := 0
              echoed := 0, timer := .stopped, elapsed := false, collisionRun := 0, faultCause := cause
              counters := { x.counters with faults := countUp x.counters.faults }
              demandQueue := [], scan := none
              dueList := s.dueListAfterLoss l, recoveryTimers := s.recoveryTimersAfterLoss l } with
          outbound := t.outbound, reserved := t.reserved, tags := t.tags, notices := t.notices
          linkErrors := t.linkErrors, nodes := t.nodes })

/-- FAULT ends after mark: the line enters IDLE with its fault cause kept, LINE STATE is marked, and the arbiter is asked (R64).
A character still being received is forgotten (the model's choice, log entry 23). In any other state nothing happens. -/
def Obligations.FaultRecoveryEntersIdle : Prop :=
  ∀ (s : State) (l : LineId), s.resetting = none →
    let x := s.line l
    (x.state = .fault → x.pinMark = true → exec (.faultRecovery l) s = .next
      (((s.setLine l { x with state := .idle, reception := none }).mark (.lineState l)).askArbiter l)) ∧
    (x.state ≠ .fault ∨ x.pinMark = false → exec (.faultRecovery l) s = .next s)

/-- The guard ends, with no character being received and the receive pin at mark: with a record present the next attempt starts,
attempts made rises by 1, and its frame is the request with the repeat flag and the same sequence number; without one the line
enters IDLE and its arbiter is asked. Otherwise, a pin held at space included, the guard goes on (R58, R59, R60, R40, R28). -/
def Obligations.GuardEndRetriesOrIdles : Prop :=
  ∀ (s : State) (l : LineId), s.resetting = none →
    let x := s.line l
    (x.state = .guard → x.reception = none → x.pinMark = true →
      (∀ t, x.transaction = some t → 1 ≤ t.made → exec (.guardEnd l) s = .next (s.setLine l { x with
        state := .sending
        transaction := some { t with made := t.made + 1 }
        openFrame := none, guardKind := none
        frame := withCrc ([t.target, t.operation.fieldKind + 0x40, t.sequence, byteOf t.operation.payload.length] ++
          t.operation.payload)
        sent := 0, echoed := 0, timer := .stopped, elapsed := false })) ∧
      (x.transaction = none → exec (.guardEnd l) s =
        .next ((s.setLine l { x with state := .idle, guardKind := none }).askArbiter l))) ∧
    (x.state ≠ .guard ∨ x.reception ≠ none ∨ x.pinMark = false → exec (.guardEnd l) s = .next s)

/-- A character outside an attempt's response, in IDLE and GUARD, and in WAITING unless it is the target's ADDR: a mark
character opens a stray frame; another is the next character of the open frame, which closes when it is complete or its LEN is above 48;
without an open frame it is noise; a framing error is counted and closes the open frame. A late echo is discarded. In FAULT
nothing is counted, and in OFF nothing is received (R55, R54, R32, R52, R50, R64). What the receiver holds after a character is
the model's (log entries 8 and 9). -/
def Obligations.CharactersOutsideAttempt : Prop :=
  ∀ (s : State) (l : LineId) (data : Byte) (mark : Bool), s.resetting = none →
    let x := s.line l
    let ended : Line := { x with reception := none }
    let broken : Line := { x with reception := if x.pinMark then none else some .held }
    let takes := fun good y => exec (.fieldCharacterReceived l data mark good) s = .next (s.setLine l y)
    (x.reception = none ∨ x.reception = some .plain →
      (x.state = .idle ∨ x.state = .guard ∨
        ∃ t, x.state = .waiting ∧ x.transaction = some t ∧ ¬(mark = true ∧ data = t.target)) →
      (mark = true → takes true
        { ended with counters := { x.counters with stray := countUp x.counters.stray }, openFrame := some [data] }) ∧
      (mark = false → x.openFrame = none →
        takes true { ended with counters := { x.counters with noise := countUp x.counters.noise } }) ∧
      (mark = false → ∀ bytes, x.openFrame = some bytes →
        takes true { ended with openFrame :=
          match (bytes ++ [data])[3]? with
          | some len => if 48 < len.toNat ∨ bytes.length + 1 = 6 + len.toNat then none else some (bytes ++ [data])
          | none => some (bytes ++ [data]) })) ∧
    (x.reception = none ∨ x.reception = some .plain →
      (x.state = .idle ∨ x.state = .guard ∨ ∃ t, x.state = .waiting ∧ x.transaction = some t) →
      takes false
        { broken with counters := { x.counters with framing := countUp x.counters.framing }, openFrame := none }) ∧
    (∀ k, x.reception = some (.echo k) → x.state = .idle ∨ x.state = .guard ∨ x.state = .waiting →
      takes true ended ∧ takes false broken) ∧
    (x.state = .fault → x.reception ≠ some .held → takes true ended ∧ takes false broken) ∧
    (∀ good, x.state = .off ∨ x.reception = some .held →
      exec (.fieldCharacterReceived l data mark good) s = .next s)

/-- The candidate response. In WAITING the target's ADDR halts the response timer and the line enters RECEIVING. There a framing
error, a mark character or a LEN above 48 ends the attempt CORRUPT. A complete frame ends it CORRUPT with a bad CRC; is
discarded as stray with another sequence number, after which the timer resumes, or the attempt ends TIMEOUT if the timeout has
passed; and else ends the attempt OK, EXCEPTION or CORRUPT by its kind, length and reason (R33, R34, R35, R36, R53, R167). What the
receiver holds after a character (log entries 8 and 9) and the field elapsed (log entry 6) are the model's. -/
def Obligations.CandidateResponseDecides : Prop :=
  ∀ (s : State) (l : LineId) (t : Transaction) (data : Byte), s.resetting = none →
    let x := s.line l
    x.transaction = some t → (x.reception = none ∨ x.reception = some .plain) →
    let received := fun mark good => exec (.fieldCharacterReceived l data mark good) s
    let ended : Line := { x with reception := none }
    let broken : Line := { x with reception := if x.pinMark then none else some .held }
    let strayed : LineCounters := { x.counters with stray := countUp x.counters.stray }
    (x.state = .waiting → data = t.target → received true true =
      .next (s.setLine l { ended with state := .receiving, timer := .halted, openFrame := some [data] })) ∧
    (x.state = .receiving → ∀ bytes, x.openFrame = some bytes →
      let now := bytes ++ [data]
      let ends := fun o => received false true =
        .next ((s.setLine l { ended with openFrame := none }).endAttempt l o .guardTime)
      (∀ mark, received mark false = .next ((s.setLine l { broken with
        counters := { x.counters with framing := countUp x.counters.framing }, openFrame := none }).endAttempt l
          .corrupt .guardTime)) ∧
      (received true true = .next
        (((s.setLine l { ended with openFrame := none }).endAttempt l .corrupt .guardTime).updLine l fun y =>
          { y with counters := { y.counters with stray := countUp y.counters.stray }, openFrame := some [data] })) ∧
      (now[3]? = none → received false true = .next (s.setLine l { ended with openFrame := some now })) ∧
      ∀ len, now[3]? = some len →
        (48 < len.toNat → ends .corrupt) ∧
        (len.toNat ≤ 48 → now.length ≠ 6 + len.toNat →
          received false true = .next (s.setLine l { ended with openFrame := some now })) ∧
        (len.toNat ≤ 48 → now.length = 6 + len.toNat →
          ∀ address kind sequence payload high low, now = address :: kind :: sequence :: len :: payload ++ [high, low] →
          (halfOf high low ≠ crc (address :: kind :: sequence :: len :: payload) → ends .corrupt) ∧
          (halfOf high low = crc (address :: kind :: sequence :: len :: payload) →
            (sequence ≠ t.sequence →
              (x.elapsed = true → received false true = .next ((s.setLine l
                { ended with counters := strayed, openFrame := none }).endAttempt l .timeout .guardTime)) ∧
              (x.elapsed = false → received false true = .next (s.setLine l
                { ended with counters := strayed, openFrame := none, state := .waiting, timer := .running }))) ∧
            (sequence = t.sequence →
              let good := kind = (match t.operation with | .ping => 0x81 | .read _ _ => 0x82 | .write _ _ _ => 0x83) ∧
                payload.length = (match t.operation with | .ping => 2 | .read _ count => 2 * count.toNat | .write _ _ _ => 0)
              (good → ends (.ok payload)) ∧
              (∀ reason, kind = 0x8F → payload = [reason] → reason ≠ 0 → ends (.exception reason)) ∧
              (¬good → ¬(kind = 0x8F ∧ ∃ reason, payload = [reason] ∧ reason ≠ 0) → ends .corrupt)))))

/-- SENDING. The character on the transmit pin has its 11 bits in the order of R49, and they are sampled back as its data and mark bit.
A stop bit sent lets the next character start, and after the last one the response timer of anything but a broadcast starts afresh.
The echo due, with its data and mark bit, passes; the last echo ends SENDING: a broadcast ends OK into the SETTLE guard, anything
else is WAITING, or ends TIMEOUT if its timeout has passed. Any other echo, wrong, broken, or begun at another place, is a
collision. A character begun before SENDING is discarded (R49, R30, R31, R51, R52, R57, R63). The moment at which a character begins,
the place given to one without it, the held reception (log entries 8 and 9) and the field elapsed (log entry 6) are the model's. -/
def Obligations.SendingChecksEchoes : Prop :=
  (∀ data mark, sampledCharacter (characterBits data mark) = some (data, mark, true)) ∧
  ∀ (s : State) (l : LineId) (t : Transaction), s.resetting = none →
    let x := s.line l
    x.state = .sending → x.transaction = some t →
    let broadcast := ∃ tag reserved, t.kind = .broadcast tag reserved
    (∀ b, x.frame[x.sent]? = some b → x.driverEnable = true ∧
      x.transmitting = [false, b.getLsbD 0, b.getLsbD 1, b.getLsbD 2, b.getLsbD 3, b.getLsbD 4, b.getLsbD 5, b.getLsbD 6,
        b.getLsbD 7, decide (x.sent = 0), true]) ∧
    (x.sent < x.frame.length → x.echoed < x.frame.length →
      (x.sent + 1 < x.frame.length ∨ broadcast → exec (.stopBitSent l) s = .next (s.setLine l { x with sent := x.sent + 1 })) ∧
      (x.sent + 1 = x.frame.length → ¬broadcast → exec (.stopBitSent l) s = .next (s.setLine l { x with
        sent := x.sent + 1, timer := .running, elapsed := false }))) ∧
    (x.sent + 1 = x.frame.length → x.echoed = x.frame.length →
      (broadcast → exec (.stopBitSent l) s =
        .next ((s.setLine l { x with sent := x.sent + 1 }).endAttempt l (.ok []) .settle)) ∧
      (¬broadcast → exec (.stopBitSent l) s = .next (s.setLine l { x with
        state := .waiting, frame := [], sent := 0, echoed := 0, timer := .running, elapsed := false }))) ∧
    (∀ data mark good begun, x.reception = some (.echo begun) ∨ (x.reception = none ∧ begun = x.echoed) →
      let received := exec (.fieldCharacterReceived l data mark good) s
      let ended : Line := { x with reception := if good = true ∨ x.pinMark = true then none else some .held }
      let passed : Line := { ended with echoed := x.echoed + 1 }
      let passes := good = true ∧ begun = x.echoed ∧ x.echoed ≤ x.sent ∧ x.frame[x.echoed]? = some data ∧
        mark = decide (x.echoed = 0)
      (passes → x.echoed + 1 < x.frame.length ∨ x.sent < x.frame.length → received = .next (s.setLine l passed)) ∧
      (passes → x.echoed + 1 = x.frame.length → x.sent = x.frame.length →
        (broadcast → received = .next ((s.setLine l passed).endAttempt l (.ok []) .settle)) ∧
        (¬broadcast → x.elapsed = true → received = .next ((s.setLine l passed).endAttempt l .timeout .guardTime)) ∧
        (¬broadcast → x.elapsed = false → received = .next (s.setLine l
          { passed with state := .waiting, frame := [], sent := 0, echoed := 0, timer := .running }))) ∧
      (¬passes →
        let failed := s.setLine l { ended with
          collisionRun := x.collisionRun + 1
          counters := { x.counters with collisions := countUp x.counters.collisions } }
        (x.collisionRun < 3 → received = .next (failed.endAttempt l .collision .guardTime)) ∧
        (3 ≤ x.collisionRun → received = .next (failed.enterFault l .collisions)))) ∧
    (∀ data mark good, x.reception = some .plain → exec (.fieldCharacterReceived l data mark good) s =
      .next (s.setLine l { x with reception := if good = true ∨ x.pinMark = true then none else some .held }))

/-- The receive pin: a fall to space begins a character while none is being received and the line is not OFF, an echo if the line
is SENDING; a return to mark ends a character held by its framing error (R50, R52, R64). How the model remembers it is its own
(log entries 8 and 9). -/
def Obligations.PinChangeBeginsCharacter : Prop :=
  ∀ (s : State) (l : LineId), s.resetting = none →
    let x := s.line l
    let pin := fun mark y => exec (.receivePinChange l mark) s = .next (s.setLine l y)
    (x.pinMark = true →
      pin true x ∧
      (x.state = .off ∨ x.reception ≠ none → pin false { x with pinMark := false }) ∧
      (x.reception = none → x.state = .sending → pin false { x with pinMark := false, reception := some (.echo x.sent) }) ∧
      (x.reception = none → x.state ≠ .off → x.state ≠ .sending →
        pin false { x with pinMark := false, reception := some .plain })) ∧
    (x.pinMark = false →
      pin false x ∧
      (x.reception = some .held → pin true { x with pinMark := true, reception := none }) ∧
      (x.reception ≠ some .held → pin true { x with pinMark := true }))

/-! ## The store jobs -/

/-- A SAVE job: the write's completion fills the slot, still without its mark; a read-back that matches starts the mark write;
its completion makes the slot VALID, the current generation the job's, and clears the configuration-changed flag unless a change
came after the capture; the reply is OK. A timer expiry or a difference ends the job STORE-FAILED and leaves the slots as they are
(R138, R139, R141). Only the events of its own phase and a reset reach a job: a completion, expiry or read-back of another phase,
late or of an ended job, is ignored, and no other command touches the job, the slots or the current generation (R138, R142). Every
step keeps the store in order: a SAVE's target slot has its mark clear while the job runs, and the current generation is 0 or that of
the newest VALID slot (R134, R136, R137, R140). How the model holds a slot's CRC, good after a completed write, is its own (log
entry 13), and so are the numbers of the phases (log entry 30). -/
def Obligations.SaveJobPhases : Prop :=
  (∀ (s : State) (tag : Byte) (phase : SavePhase) (image : Image) (target : SlotId) (generation : Word),
    s.resetting = none → s.storeJob = some (.save tag phase image target generation) →
    let own := s.storePhases
    let ended := fun status : Status => { s with
      storeJob := none, changedAfterCapture := false, reserved := s.reserved - 10
      tags := s.tags.filter fun t => t ≠ tag
      outbound := s.outbound ++ [.reply { kind := 0xE0, tag := tag, status := status, data := wordBytes generation }] }
    (phase = .write →
      exec (.saveWriteCompletion own) s = .next { s.setStoreSlot target
        { mark := false, crcGood := true, generation := generation, image := image } with
        storeJob := some (.save tag .readBack image target generation), storePhases := own + 1 } ∧
      exec (.saveWriteTimerExpiry own) s = .next (ended .storeFailed)) ∧
    (phase = .readBack →
      exec (.saveVerifyReadBack true own) s = .next { s with
        storeJob := some (.save tag .markWrite image target generation) } ∧
      exec (.saveVerifyReadBack false own) s = .next (ended .storeFailed)) ∧
    (phase = .markWrite →
      exec (.saveMarkWriteCompletion own) s = .next
        { (ended .ok).setStoreSlot target { s.storeSlot target with mark := true } with
          generation := generation
          configChanged := s.configChanged && s.changedAfterCapture }) ∧
    (phase ≠ .write → exec (.saveVerifyTimerExpiry own) s = .next (ended .storeFailed)) ∧
    ∀ number equal cleared,
      (phase ≠ .write →
        exec (.saveWriteCompletion number) s = .next s ∧ exec (.saveWriteTimerExpiry number) s = .next s) ∧
      (phase ≠ .readBack → exec (.saveVerifyReadBack equal number) s = .next s) ∧
      (phase ≠ .markWrite → exec (.saveMarkWriteCompletion number) s = .next s) ∧
      (phase = .write → exec (.saveVerifyTimerExpiry number) s = .next s) ∧
      exec (.eraseInvalidationCompletion cleared number) s = .next s ∧ exec (.eraseTimerExpiry number) s = .next s) ∧
  (∀ (c : Instr) (number : Nat) (s : State), phaseOfRow c = some number →
    s.storeJob = none ∨ number ≠ s.storePhases → exec c s = .next s) ∧
  (∀ (c : Instr) (s t : State) (job : StoreJob), s.resetting = none → s.storeJob = some job → phaseOfRow c = none →
    c ≠ .resetRequest → c ≠ .powerUp → c ≠ .rstPinLow → exec c s = .next t →
    t.storeJob = some job ∧ t.storePhases = s.storePhases ∧ t.storeSlot0 = s.storeSlot0 ∧ t.storeSlot1 = s.storeSlot1 ∧
      t.generation = s.generation) ∧
  (∀ s t : State, s.AddressesDistinct → s.StoreInOrder → step s = .next t → t.StoreInOrder)

/-- An ERASE job: a mark that reads cleared goes on with the next slot, or ends the job OK after the last; a mark that reads
intact leaves the slot as it was and gives the current generation back; it and a timer expiry end the job STORE-FAILED, and the
slots after it are not touched (R140). A row of the SAVE's phases does not reach it (R142). The numbers of the phases are the model's own
(log entry 30). -/
def Obligations.EraseJobInvalidates : Prop :=
  ∀ (s : State) (tag : Byte) (slot : SlotId) (rest : List SlotId) (held : Bool),
    s.resetting = none → s.storeJob = some (.erase tag slot rest held) →
    let own := s.storePhases
    let ended := fun status : Status => { s with
      storeJob := none, reserved := s.reserved - 6
      tags := s.tags.filter fun t => t ≠ tag
      outbound := s.outbound ++ [.reply { kind := 0xE1, tag := tag, status := status, data := [] }] }
    (rest = [] → exec (.eraseInvalidationCompletion true own) s = .next (ended .ok)) ∧
    (∀ next others, rest = next :: others → exec (.eraseInvalidationCompletion true own) s = .next
      { s.setStoreSlot next { s.storeSlot next with mark := false } with
        generation := if (s.storeSlot next).generation = s.generation then 0 else s.generation
        storeJob := some (.erase tag next others (decide ((s.storeSlot next).generation = s.generation)))
        storePhases := own + 1 }) ∧
    exec (.eraseInvalidationCompletion false own) s = .next
      { (ended .storeFailed).setStoreSlot slot { s.storeSlot slot with mark := true } with
        generation := if held then (s.storeSlot slot).generation else s.generation } ∧
    exec (.eraseTimerExpiry own) s = .next (ended .storeFailed) ∧
    ∀ number equal,
      exec (.saveWriteCompletion number) s = .next s ∧ exec (.saveWriteTimerExpiry number) s = .next s ∧
      exec (.saveVerifyReadBack equal number) s = .next s ∧ exec (.saveMarkWriteCompletion number) s = .next s ∧
      exec (.saveVerifyTimerExpiry number) s = .next s

/-! ## The shared operations -/

/-- The admission walk goes through the list up to the first eligible entry that does not fit: before it every eligible entry is
admitted, in list order and with its content built now, and every other keeps its place; from it on nothing is admitted, so no shorter
notice passes a longer one that does not fit. The link error count returns to 0 when it is reported. Nothing else changes, and
law L1 is kept. The list holds each subject once, as law L5 keeps it (R97, R98, R99, R100, R101). -/
def Obligations.WalkAdmitsInOrder : Prop :=
  ∀ s : State, s.notices.Nodup → ∃ before after,
    s.notices = before ++ after ∧
    (∀ sub, after.head? = some sub → s.eligible sub = true ∧ s.walk.freeSpace < sub.length) ∧
    (s.occupied + s.reserved ≤ 2048 → s.walk.occupied + s.walk.reserved ≤ 2048) ∧
    s.walk = { s with
      outbound := s.outbound ++ ((before.filter s.eligible).filterMap s.buildNotice).map Message.notice
      notices := (before.filter fun sub => !s.eligible sub) ++ after
      linkErrors := if s.eligible .linkError = true ∧ Subject.linkError ∈ before then 0 else s.linkErrors }

/-- A mark: a subject already pending is merged; one whose notice is not in the queue, with no entry pending and room for its
notice, is admitted at once; any other joins the tail of the list (R97, R99, R100, R101). The notice of a subject is built from its
state now: NODE STATE with address, line and state, CHANGE with address and update number, LINE STATE with line state and fault cause,
LINK ERROR with the count (R96, R100, R165). A subject is eligible while no notice of it is queued (R98); one whose index is free or
REMOVING has no notice (the model's inference, log entry 11). -/
def Obligations.MarkMergesAdmitsOrJoins : Prop :=
  (∀ (s : State) (i : Index),
    (s.liveNode i = none → s.buildNotice (.nodeState i) = none ∧ s.buildNotice (.change i) = none) ∧
    ∀ n, s.liveNode i = some n →
      s.buildNotice (.nodeState i) = some (.nodeState i n.config.address n.config.line n.state) ∧
      ∀ x, s.snapshot i = some x → s.buildNotice (.change i) = some (.change i n.config.address x.update)) ∧
  (∀ (s : State) (l : LineId), s.buildNotice (.lineState l) = some (.lineState l (s.line l).state (s.line l).faultCause)) ∧
  (∀ s : State, s.buildNotice .linkError = some (.linkError s.linkErrors)) ∧
  (∀ (s : State) (sub : Subject), (s.eligible sub = true ↔
      (∀ m ∈ s.outbound, m.subject ≠ some sub) ∧ ∃ n, s.buildNotice sub = some n) ∧
    ∀ n, s.buildNotice sub = some n → (Message.notice n).subject = some sub ∧ sub.length = (Message.notice n).bytes.length) ∧
  ∀ (s : State) (sub : Subject) (n : Notice), s.buildNotice sub = some n →
    let at_once := s.notices = [] ∧ (∀ m ∈ s.outbound, m.subject ≠ some sub) ∧ (Message.notice n).length ≤ s.freeSpace
    (sub ∈ s.notices → s.mark sub = s) ∧
    (sub ∉ s.notices → at_once → s.mark sub = { s with
      outbound := s.outbound ++ [.notice n]
      linkErrors := if sub = .linkError then 0 else s.linkErrors }) ∧
    (sub ∉ s.notices → ¬at_once → s.mark sub = { s with notices := s.notices ++ [sub] })

/-- A reply is appended and its reservation released; if it is shorter, the admission walk then runs, and if it fills its
reservation, nothing else happens (R158). Free space is 2048 less the bytes of the messages and the reservations (R153). -/
def Obligations.ReplyQueuedUnderReservation : Prop :=
  (∀ s : State, s.freeSpace = 2048 - (s.outbound.map fun m => m.bytes.length).sum - s.reserved) ∧
  ∀ (s : State) (reservation : Nat) (r : Reply),
    let queued : State := { s with outbound := s.outbound ++ [.reply r], reserved := s.reserved - reservation }
    (r.data.length + 6 < reservation → s.queueReply reservation r = queued.walk) ∧
    (r.data.length + 6 = reservation → s.queueReply reservation r = queued)

/-- The arbiter of an IDLE line: the demand queue's head, unless the streak is 4 and a node is due; else the due list's head;
else the scan job's next address that no entry in use holds, or the job's end OK; else nothing. The start takes the work from its
collection, gives the transaction its sequence number, which advances, marks the node ATTACHED, updates the streak and enters
SENDING, where the first attempt's frame is the request of the plain kind, with its CRC (R28, R53, R167). A line that is not IDLE is
not asked (R81, R82, R83, R84, R2, R4, R26, R27, R126). -/
def Obligations.ArbiterChooses : Prop :=
  (∀ start count data, [Operation.ping, .read start count, .write start count data].map
    (fun op => (op.fieldKind, op.payload)) =
      [(0x01, []), (0x02, halfBytes start ++ [count]), (0x03, halfBytes start ++ [count] ++ data)]) ∧
  (∀ (x : Line) (t : Transaction), t.made = 1 → x.startAttempt t = { x with
    state := .sending
    transaction := some t
    openFrame := none, guardKind := none
    frame := withCrc ([t.target, t.operation.fieldKind, t.sequence, byteOf t.operation.payload.length] ++ t.operation.payload)
    sent := 0, echoed := 0, timer := .stopped, elapsed := false }) ∧
  ∀ (s : State) (l : LineId),
    let x := s.line l
    (x.state ≠ .idle → s.askArbiter l = s) ∧
    (x.state = .idle →
      (∀ e rest, x.demandQueue = e :: rest → ¬(x.streak = 4 ∧ x.dueList ≠ []) →
        let left : Line := { x with demandQueue := rest, streak := if x.streak < 4 then x.streak + 1 else x.streak }
        (e.node = none → s.askArbiter l = s.setLine l (Line.startAttempt { left with sequence := x.sequence + 1 }
          { kind := .broadcast e.tag e.reserved, target := 0, operation := e.operation, sequence := x.sequence
            allowed := 1, made := 1, timeout := none, last := none })) ∧
        (∀ i n, e.node = some i → s.node i = some n → s.askArbiter l =
          (s.setNode i (some { n with nextSequence := n.nextSequence + 1, mark := .attached })).setLine l (left.startAttempt
            { kind := .demand i e.tag e.reserved, target := n.config.address, operation := e.operation
              sequence := n.nextSequence, allowed := 1 + n.config.retries.toNat, made := 1
              timeout := some n.config.timeout, last := none }))) ∧
      (∀ d rest, x.dueList = d :: rest → x.demandQueue = [] ∨ x.streak = 4 → ∀ n, s.node d.index = some n →
        let left : Line := { x with dueList := rest, streak := 0 }
        let marked := s.setNode d.index (some { n with nextSequence := n.nextSequence + 1, mark := .attached })
        (∀ p, d.kind = .poll → n.config.descriptor = some p → s.askArbiter l = marked.setLine l (left.startAttempt
          { kind := .poll d.index d.due, target := n.config.address, operation := .read p.start p.count
            sequence := n.nextSequence, allowed := 1 + n.config.retries.toNat, made := 1
            timeout := some n.config.timeout, last := none })) ∧
        (d.kind = .recovery → s.askArbiter l = marked.setLine l (left.startAttempt
          { kind := .recoveryProbe d.index, target := n.config.address, operation := .ping
            sequence := n.nextSequence, allowed := 1, made := 1, timeout := some n.config.timeout, last := none }))) ∧
      (∀ j, x.demandQueue = [] → x.dueList = [] → x.scan = some j → j.last.toNat ≤ 247 →
        let held := fun a : Byte => ∃ i n, s.node i = some n ∧ n.config.line = l ∧ n.config.address = a
        (∀ a : Byte, j.next.toNat ≤ a.toNat → a.toNat ≤ j.last.toNat → ¬held a →
          (∀ b : Byte, j.next.toNat ≤ b.toNat → b.toNat < a.toNat → held b) →
          s.askArbiter l = s.setLine l (Line.startAttempt
            { x with scan := some { j with next := a, probe := some a }, sequence := x.sequence + 1 }
            { kind := .scanProbe, target := a, operation := .ping, sequence := x.sequence
              allowed := 1, made := 1, timeout := some j.timeout, last := none })) ∧
        ((∀ a : Byte, j.next.toNat ≤ a.toNat → a.toNat ≤ j.last.toNat → held a) →
          s.askArbiter l = State.queueReply
            { s.setLine l { x with scan := none } with tags := s.tags.filter fun t => t ≠ j.tag } 57
            { kind := 0xD0, tag := j.tag, status := .ok
              data := [lineCode l, j.lastProbed, byteOf j.found.length] ++
                j.found.flatMap fun f => f.address :: halfBytes f.nodeType })) ∧
      (x.demandQueue = [] → x.dueList = [] → x.scan = none → s.askArbiter l = s))

/-- The end of an attempt: the line enters GUARD of the kind given, the run of collisions is kept after COLLISION and cleared after
any other outcome, and a TIMEOUT or CORRUPT is counted on an ATTACHED node. TIMEOUT, CORRUPT and COLLISION with attempts left
keep the record for a retry; any other end delivers the outcome (R39, R43, R44, R58, R63, R3). That the line is in GUARD, its
record gone and its run of collisions ended, before the outcome is counted and delivered is the model's inference (log entry 17).
A counter increases by 1 and stays at 65535 (R3, R68). -/
def Obligations.AttemptEndRetriesOrDelivers : Prop :=
  (∀ c : Half, (c.toNat < 65535 → (countUp c).toNat = c.toNat + 1) ∧ (c.toNat = 65535 → countUp c = c)) ∧
  ∀ (s : State) (l : LineId) (t : Transaction) (o : FieldOutcome) (kind : GuardKind),
    (s.line l).transaction = some t →
    let x := s.line l
    let retry := decide ((o = .timeout ∨ o = .corrupt ∨ o = .collision) ∧ t.made < t.allowed)
    let ended := s.setLine l { x with
      state := .guard, guardKind := some kind, frame := [], sent := 0, echoed := 0, timer := .stopped, elapsed := false
      collisionRun := if o = .collision then x.collisionRun else 0
      transaction := if retry then some { t with last := some o } else none }
    let counted := fun u : State =>
      (retry = true → s.endAttempt l o kind = u) ∧ (retry = false → s.endAttempt l o kind = u.deliver l t o)
    (∀ i n, t.kind.node = some i → s.node i = some n → n.mark = .attached →
      (o = .timeout → counted (ended.setNode i
        (some { n with counters := { n.counters with timeouts := countUp n.counters.timeouts } }))) ∧
      (o = .corrupt → counted (ended.setNode i
        (some { n with counters := { n.counters with corrupt := countUp n.counters.corrupt } }))) ∧
      (o ≠ .timeout → o ≠ .corrupt → counted ended)) ∧
    (∀ i n, t.kind.node = some i → s.node i = some n → n.mark ≠ .attached → counted ended) ∧
    (t.kind.node = none → counted ended)

/-- The outcome of a demand or poll at the Node Table. ATTACHED: OK and EXCEPTION take the node ONLINE with failure count 0 and
mark NODE STATE for a NEW node; TIMEOUT and CORRUPT add a failure, below the limit SUSPECT for an ONLINE node, and at the
limit OFFLINE with its schedule stopped, its demands answered NODE-DOWN, their tags gone from the registry and their reservations
released, NODE STATE marked, which leaves it pending where an older notice of it is queued and loses no other notice, and its recovery
timer started; the line's own outcomes leave it. DETACHED: the outcome is dropped, and a REMOVING entry is freed (R16, R17, R18, R19,
R21, R14). -/
def Obligations.ServiceOutcomeMovesNode : Prop :=
  ∀ (s : State) (l : LineId) (i : Index) (n : Node) (o : FieldOutcome), s.node i = some n →
    let done := s.applyOutcome l i false o
    let unmarked : Node := { n with mark := .none }
    (n.mark = .detached → done = s.setNode i (if n.state = .removing then none else some unmarked)) ∧
    (n.mark = .attached →
      (∀ content, o = .ok content →
        let u := s.setNode i (some { unmarked with
          state := .online, failures := 0, counters := { n.counters with good := countUp n.counters.good } })
        done = if n.state = .new then u.mark (.nodeState i) else u) ∧
      (∀ reason, o = .exception reason →
        let u := s.setNode i (some { unmarked with
          state := .online, failures := 0, lastException := reason
          counters := { n.counters with exceptions := countUp n.counters.exceptions } })
        done = if n.state = .new then u.mark (.nodeState i) else u) ∧
      (o = .collision ∨ o = .lineOff ∨ o = .lineFault → done = s.setNode i (some unmarked)) ∧
      (o = .timeout ∨ o = .corrupt →
        (n.failures + 1 < n.config.limit.toNat → done = s.setNode i (some { unmarked with
          failures := n.failures + 1, state := if n.state = .online then .suspect else n.state })) ∧
        (n.config.limit.toNat ≤ n.failures + 1 →
          let x := s.line l
          (∃ ms, done.outbound = s.outbound ++ ms ∧
            repliesOf ms = (x.demandQueue.filter fun e => e.node = some i).map
              (fun e => demandReply l e.tag e.node e.operation .nodeDown []) ∧
            done.tags = s.tags.filter fun g => g ∉ (repliesOf ms).map Reply.tag) ∧
          done.reserved = s.reserved - ((x.demandQueue.filter fun e => e.node = some i).map DemandEntry.reserved).sum ∧
          done.Reported (.nodeState i) ∧ s.NoticesKept done [.nodeState i] ∧
          (s.noticeQueued (.nodeState i) = true → Subject.nodeState i ∈ done.notices) ∧
          done = { (s.setNode i (some { unmarked with failures := n.failures + 1, state := .offline })).setLine l
                { x with
                  pollTimers := x.pollTimers.set i.val none i.isLt
                  recoveryTimers := x.recoveryTimers.set i.val
                    (some (s.partTime + x.settings.recovery.setWidth 32)) i.isLt
                  dueList := x.dueList.filter fun d => d.index ≠ i
                  demandQueue := x.demandQueue.filter fun e => e.node ≠ some i } with
              outbound := done.outbound, reserved := done.reserved, tags := done.tags, notices := done.notices
              linkErrors := done.linkErrors })))

/-- The delivery of an outcome. A demand's reply is queued and its tag leaves the registry before the Node Table has the outcome; a
broadcast's likewise, with no node. A poll's goes to the Node Table; then an applied OK payload is compared with the record,
stored with its capture time, raises the update number by 1 and may mark CHANGE if it differs; and an applied poll is re-armed
from its due time, or re-based and counted late, or put back first in the due list when the line went away (R44, R113, R116,
R79, R80, R92). Each outcome has its status in a deferred reply, and OK and EXCEPTION their data; a reply without an outcome has the
fields of its kind alone (R113, R116, R117). -/
def Obligations.DeliveryReachesRecipients : Prop :=
  (∀ content reason, [FieldOutcome.ok content, .exception reason, .timeout, .corrupt, .collision, .lineOff, .lineFault].map
    (fun o => (o.status, o.data)) =
      [(.ok, content), (.exception, [reason]), (.timeout, []), (.corrupt, []), (.collision, []), (.lineOff, []), (.lineFault, [])]) ∧
  (∀ l tag i op status data,
    demandReply l tag (some i) op status data = { kind := 0xC0, tag := tag, status := status, data := [byteOf i, op.code] ++ data } ∧
    demandReply l tag none op status data = { kind := 0xC1, tag := tag, status := status, data := [lineCode l] }) ∧
  (∀ (s : State) (l : LineId) (t : Transaction) (o : FieldOutcome),
    let untagged := fun tag => { s with tags := s.tags.filter fun x => x ≠ tag }
    (∀ i tag reserved, t.kind = .demand i tag reserved → s.deliver l t o =
      (State.queueReply (untagged tag) reserved
        { kind := 0xC0, tag := tag, status := o.status, data := [byteOf i, t.operation.code] ++ o.data }).applyOutcome
          l i false o) ∧
    (∀ tag reserved, t.kind = .broadcast tag reserved → s.deliver l t o =
      State.queueReply (untagged tag) reserved { kind := 0xC1, tag := tag, status := o.status, data := [lineCode l] }) ∧
    (∀ i, t.kind = .recoveryProbe i → s.deliver l t o = s.applyOutcome l i true o) ∧
    (∀ i due n m, t.kind = .poll i due → s.node i = some n →
      let applied := s.applyOutcome l i false o
      (n.mark ≠ .attached → s.deliver l t o = applied) ∧
      (n.mark = .attached → applied.node i = some m →
        (∀ payload, o = .ok payload → s.deliver l t o = (applied.storeSnapshot i payload).rearmPoll l i due) ∧
        (m.state ≠ .offline → (∃ reason, o = .exception reason) ∨ o = .collision ∨ o = .timeout ∨ o = .corrupt →
          s.deliver l t o = applied.rearmPoll l i due) ∧
        (m.state = .offline → o = .timeout ∨ o = .corrupt → s.deliver l t o = applied) ∧
        (o = .lineOff ∨ o = .lineFault → s.deliver l t o =
          applied.updLine l fun x => { x with dueList := { index := i, kind := .poll, due := due } :: x.dueList })))) ∧
  (∀ (s : State) (l : LineId) (i : Index) (n : Node) (due : Word), s.node i = some n →
    let candidate := due + n.config.period.setWidth 32
    let armed := fun at_ => s.updLine l fun x => { x with pollTimers := x.pollTimers.set i.val (some at_) i.isLt }
    let later := 1 ≤ (candidate - s.partTime).toNat ∧ (candidate - s.partTime).toNat ≤ 2147483647
    (later → s.rearmPoll l i due = armed candidate) ∧
    (¬later → s.rearmPoll l i due =
      (armed (s.partTime + n.config.period.setWidth 32)).setNode i
        (some { n with counters := { n.counters with latePolls := countUp n.counters.latePolls } }))) ∧
  (∀ (s : State) (i : Index) (n : Node) (x : Snapshot) (payload : List Byte), s.node i = some n → s.snapshot i = some x →
    let stored := fun update => s.setSnapshot i
      (some { update := update, record := some { payload := payload, captured := s.partTime, agedOut := false } })
    let same := ∃ r, x.record = some r ∧ r.payload = payload
    (same → s.storeSnapshot i payload = stored x.update) ∧
    (¬same → n.config.notify = true → s.storeSnapshot i payload = (stored (x.update + 1)).mark (.change i)) ∧
    (¬same → n.config.notify = false → s.storeSnapshot i payload = stored (x.update + 1)))

/-- The outcomes of probes. A recovery probe that is answered takes the ATTACHED node ONLINE with failure count 0, marks NODE STATE,
stops the recovery timer and makes a node with a descriptor due at once; any other outcome arms the recovery timer again (R20,
R75). A scan probe's settled result is recorded, a collision is not, and the job then ends ABORTED, LIST-FULL or OK, in this
order, or goes on; LINE-OFF and LINE-FAULT record nothing and end nothing here (R128, R129). A job that ends leaves the line, its tag
the registry, and its reply carries the last address probed and the found list (R129, R164). -/
def Obligations.ProbeOutcomesRecorded : Prop :=
  (∀ (s : State) (l : LineId) (j : ScanJob) (status : Status), (s.line l).scan = some j →
    j.reply l status = { kind := 0xD0, tag := j.tag, status := status
                         data := [lineCode l, j.lastProbed, byteOf j.found.length] ++
                           j.found.flatMap fun f => f.address :: halfBytes f.nodeType } ∧
    s.endScan l status = State.queueReply
      { s.setLine l { s.line l with scan := none } with tags := s.tags.filter fun t => t ≠ j.tag } 57 (j.reply l status)) ∧
  (∀ (s : State) (l : LineId) (i : Index) (n m : Node) (o : FieldOutcome), s.node i = some n → n.mark = .attached →
    let unmarked : Node := { n with mark := .none }
    ((∃ content, o = .ok content) ∧ m = { unmarked with
        state := .online, failures := 0, counters := { n.counters with good := countUp n.counters.good } } ∨
      (∃ reason, o = .exception reason ∧ m = { unmarked with
        state := .online, failures := 0, lastException := reason
        counters := { n.counters with exceptions := countUp n.counters.exceptions } }) →
      let u := (s.setNode i (some m)).mark (.nodeState i)
      s.applyOutcome l i true o = u.updLine l fun x => { x with
        recoveryTimers := x.recoveryTimers.set i.val none i.isLt
        dueList := if n.config.descriptor.isSome then
          joinDue x.dueList { index := i, kind := .poll, due := s.partTime } else x.dueList }) ∧
    (o = .timeout ∨ o = .corrupt ∨ o = .collision ∨ o = .lineOff ∨ o = .lineFault →
      s.applyOutcome l i true o = (s.setNode i (some unmarked)).updLine l fun x => { x with
        recoveryTimers := x.recoveryTimers.set i.val (some (s.partTime + x.settings.recovery.setWidth 32)) i.isLt })) ∧
  (∀ (s : State) (l : LineId) (t : Transaction) (j : ScanJob) (o : FieldOutcome), t.kind = .scanProbe →
    (s.line l).scan = some j →
    let settled := fun found => { j with
      probe := none, found := j.found ++ found, lastProbed := t.target, next := t.target + 1 }
    let recorded := fun k : ScanJob =>
      let u := s.updLine l fun x => { x with scan := some k }
      let ends := fun status => s.deliver l t o = u.endScan l status
      (o = .lineOff ∨ o = .lineFault → s.deliver l t o = u) ∧
      (o ≠ .lineOff → o ≠ .lineFault →
        (k.abort = true → ends .aborted) ∧
        (k.abort = false → 16 ≤ k.found.length → ends .listFull) ∧
        (k.abort = false → k.found.length < 16 → k.last.toNat < k.next.toNat → ends .ok) ∧
        (k.abort = false → k.found.length < 16 → k.next.toNat ≤ k.last.toNat → s.deliver l t o = u))
    (∀ high low, o = .ok [high, low] → recorded (settled [{ address := t.target, nodeType := halfOf high low }])) ∧
    (∀ reason, o = .exception reason → recorded (settled [{ address := t.target, nodeType := 0 }])) ∧
    (o = .timeout ∨ o = .corrupt → recorded (settled [])) ∧
    (o = .collision ∨ o = .lineOff ∨ o = .lineFault → recorded { j with probe := none }))

/-! ## Frames -/

/-- The host frames round trip: a request built with its LEN and CRC is accepted and read back. A body is one of its kind exactly if
it holds the fields of the kind with every field in its range: each parser answers values in range alone, of no other bytes than
those they are sent as, and answers them of those bytes. A NODE ADD or NODE SET body without the timing group is read with 1000 ms,
20 ms, 1 and 3. The kinds have their codes, halves and words go high byte first, and the CRC starts at 0xFFFF with the polynomial
0x1021 (R1, R7, R8, R10, R48, R53, R109, R114, R124, R148, R162, R163). -/
def Obligations.HostFramesRoundTrip : Prop :=
  (∀ r : Request, r.body.length ≤ 58 → frameAccepted r.frame = true ∧ requestOf r.frame = some r ∧
    r.frame = withCrc ([byteOf (5 + r.body.length), r.kind, r.tag] ++ r.body)) ∧
  (∀ bytes, ∃ high low, withCrc bytes = bytes ++ [high, low] ∧ (crc bytes).toNat = 256 * high.toNat + low.toNat) ∧
  (crc [] = 0xFFFF ∧ ∀ bytes b, crc (bytes ++ [b]) = [7, 6, 5, 4, 3, 2, 1, 0].foldl
    (fun (r : Half) k => if r.getLsbD 15 = b.getLsbD k then r <<< 1 else (r <<< 1) ^^^ 0x1021) (crc bytes)) ∧
  (∀ v : Half, halfBytes v = [byteOf (v.toNat / 256), byteOf v.toNat]) ∧
  (∀ v : Word, wordBytes v =
    [byteOf (v.toNat / 16777216), byteOf (v.toNat / 65536), byteOf (v.toNat / 256), byteOf v.toNat]) ∧
  ([RequestKind.status, .reset, .lineSet, .lineEnable, .lineDisable, .lineInfo, .nodeAdd, .nodeSet, .nodeRemove, .nodeEnable,
    .nodeDisable, .nodeInfo, .readSnapshot, .demand, .broadcast, .cancel, .scanStart, .scanAbort, .storeSave, .storeErase].map
      RequestKind.code =
    [0x01, 0x02, 0x10, 0x11, 0x12, 0x13, 0x20, 0x21, 0x22, 0x23, 0x24, 0x25, 0x30, 0x40, 0x41, 0x42, 0x50, 0x51, 0x60, 0x61] ∧
    ∀ b k, requestKindOf b = some k ↔ b = k.code) ∧
  (∀ body, emptyBody body = some () ↔ body = []) ∧
  (∀ body l, lineBody body = some l ↔ body = [lineCode l]) ∧
  (∀ body i, indexBody body = some i ↔ body = [byteOf i.val]) ∧
  (∀ body l clear, lineInfoBody body = some (l, clear) ↔ body = [lineCode l, if clear then 1 else 0]) ∧
  (∀ body i clear, nodeInfoBody body = some (i, clear) ↔ body = [byteOf i.val, if clear then 1 else 0]) ∧
  (∀ body tag, cancelBody body = some tag ↔ body = [tag]) ∧
  (∀ body l (settings : LineSettings), lineSetBody body = some (l, settings) ↔
    (settings.rate.toNat ≤ 6 ∧ settings.guardTime.toNat ≤ 20 ∧ 100 ≤ settings.recovery.toNat ∧ settings.recovery.toNat ≤ 60000 ∧
      1 ≤ settings.settle.toNat ∧ settings.settle.toNat ≤ 100) ∧
    body = [lineCode l, settings.rate, settings.guardTime] ++ halfBytes settings.recovery ++ [settings.settle]) ∧
  (∀ body (c : NodeConfig) disabled, nodeBody body = some (c, disabled) ↔
    (1 ≤ c.address.toNat ∧ c.address.toNat ≤ 247 ∧ (∀ d, c.descriptor = some d → 1 ≤ d.count.toNat ∧ d.count.toNat ≤ 24) ∧
      10 ≤ c.period.toNat ∧ c.period.toNat ≤ 60000 ∧ 1 ≤ c.timeout.toNat ∧ c.timeout.toNat ≤ 250 ∧ c.retries.toNat ≤ 3 ∧
      1 ≤ c.limit.toNat ∧ c.limit.toNat ≤ 15) ∧
    (body = nodeBytes c disabled true ∨
      body = nodeBytes c disabled false ∧ c.period = 1000 ∧ c.timeout = 20 ∧ c.retries = 1 ∧ c.limit = 3)) ∧
  (∀ body i c, nodeSetBody body = some (i, c) ↔
    ∃ rest disabled, body = byteOf i.val :: rest ∧ nodeBody rest = some (c, disabled)) ∧
  (∀ body i (op : Operation), demandBody body = some (i, op) ↔ op.admitted ∧ body = byteOf i.val :: op.bytes) ∧
  (∀ body l (op : Operation), broadcastBody body = some (l, op) ↔
    ∃ start count data, op = .write start count data ∧ op.admitted ∧
      body = [lineCode l] ++ halfBytes start ++ [count] ++ data) ∧
  (∀ body l first last timeout, scanStartBody body = some (l, first, last, timeout) ↔
    (1 ≤ first.toNat ∧ first.toNat ≤ last.toNat ∧ last.toNat ≤ 247 ∧ 1 ≤ timeout.toNat ∧ timeout.toNat ≤ 250) ∧
    body = [lineCode l, first, last, timeout])

/-! ## The laws that every step keeps -/

/-- Laws L3 and L10, and the bound of L7: every step keeps both lines in order. A line has a record while it is SENDING, WAITING
or RECEIVING, and none in OFF, IDLE and FAULT; in OFF and FAULT its demand queue is empty and it has no scan job; a demand queue holds at most 8
entries (R56, R62, R107). Every step also keeps the small counts of a line in their ranges: fewer than 4 consecutive collisions,
a streak of at most 4, and fewer than 16 finds in a job that goes on (R63, R84, R129). -/
def Obligations.LinesStayInOrder : Prop :=
  (∀ s t : State, s.LinesInOrder → step s = .next t → t.LinesInOrder) ∧
  (∀ s t : State, s.LinesInBounds → step s = .next t → t.LinesInBounds)

/-- Laws L7, L8 and L9: every step keeps the node table in agreement with what refers to it. Failure counts agree with states;
queued demands, transactions, due-list entries, timers, snapshots and pending notices refer to entries in use, on their line, in
the states that the rules allow; and a node's service is in at most one place (R5, R14, R73 to R77, R91, R107). -/
def Obligations.NodesStayInOrder : Prop :=
  ∀ s t : State, s.NodesInOrder → step s = .next t → t.NodesInOrder

/-- Law L4: every step keeps the line and address of the entries in use distinct (R6). -/
def Obligations.AddressesStayDistinct : Prop :=
  ∀ s t : State, s.AddressesDistinct → step s = .next t → t.AddressesDistinct

/-- Laws L5 and L6: every step keeps at most one pending entry and one queued notice for each subject (R97), no tag twice in the
registry, and, the lines being in order, in the registry exactly the tags of the outstanding deferred requests: queued or in flight on
a line, a scan job, or the store job (R157). Every step also keeps the host link in order: a slot is FILLING exactly while a write into
it is in progress, the slot order lists the FULL slots once each, with accepted frames, and the message of a read in progress is the
head of the outbound queue (R146, R147, R148, R149). -/
def Obligations.NoticesAndTagsStaySingle : Prop :=
  (∀ s t : State, s.NoticesSingle → step s = .next t → t.NoticesSingle) ∧
  (∀ s t : State, s.TagsDistinct → step s = .next t → t.TagsDistinct) ∧
  (∀ s t : State, s.LinesInOrder → s.TagsDistinct → s.TagsAgree → step s = .next t → t.TagsAgree) ∧
  (∀ s t : State, s.LinkInOrder → step s = .next t → t.LinkInOrder)

/-- Law L1: with the lines in order, every step keeps occupied plus reserved bytes within 2048, with the accounts that make it
so (R153, R121, R158). -/
def Obligations.SpaceStaysWithinQueue : Prop :=
  ∀ s t : State, s.LinesInOrder → s.AccountsKept → step s = .next t → t.AccountsKept

/-- State.reset, the model's one choice among the states after a reset (log entry 14), has the laws L1 and L3 to L10 as they are
stated above: the lines and the nodes in order, the addresses distinct, the notices single, the tags those of the outstanding
requests, the accounts kept, the store and the host link in order. Of L2, L11 and L12 nothing is stated here. -/
def Obligations.ResetHasTheLaws : Prop :=
  State.reset.LinesInOrder ∧ State.reset.LinesInBounds ∧ State.reset.NodesInOrder ∧ State.reset.AddressesDistinct ∧
    State.reset.NoticesSingle ∧ State.reset.TagsDistinct ∧ State.reset.TagsAgree ∧ State.reset.AccountsKept ∧
    State.reset.StoreInOrder ∧ State.reset.LinkInOrder

end
end

