-- ==== Sys2Proof/Laws/State.lean ====
section
/-! SUPPORT. The fields of the state under each named update: one lemma per field per update, so that no later proof unfolds
an update. -/

namespace Sys2Proof.Machine

/-! ## setLine -/

@[simp] theorem State.setLine_strap (s : State) (l : LineId) (x : Line) : (s.setLine l x).strap = s.strap := by cases l <;> rfl
@[simp] theorem State.setLine_slot0 (s : State) (l : LineId) (x : Line) : (s.setLine l x).slot0 = s.slot0 := by cases l <;> rfl
@[simp] theorem State.setLine_slot1 (s : State) (l : LineId) (x : Line) : (s.setLine l x).slot1 = s.slot1 := by cases l <;> rfl
@[simp] theorem State.setLine_slotOrder (s : State) (l : LineId) (x : Line) : (s.setLine l x).slotOrder = s.slotOrder := by cases l <;> rfl
@[simp] theorem State.setLine_link (s : State) (l : LineId) (x : Line) : (s.setLine l x).link = s.link := by cases l <;> rfl
@[simp] theorem State.setLine_linkAck (s : State) (l : LineId) (x : Line) : (s.setLine l x).linkAck = s.linkAck := by cases l <;> rfl
@[simp] theorem State.setLine_linkByte (s : State) (l : LineId) (x : Line) : (s.setLine l x).linkByte = s.linkByte := by cases l <;> rfl
@[simp] theorem State.setLine_outbound (s : State) (l : LineId) (x : Line) : (s.setLine l x).outbound = s.outbound := by cases l <;> rfl
@[simp] theorem State.setLine_reserved (s : State) (l : LineId) (x : Line) : (s.setLine l x).reserved = s.reserved := by cases l <;> rfl
@[simp] theorem State.setLine_tags (s : State) (l : LineId) (x : Line) : (s.setLine l x).tags = s.tags := by cases l <;> rfl
@[simp] theorem State.setLine_nodes (s : State) (l : LineId) (x : Line) : (s.setLine l x).nodes = s.nodes := by cases l <;> rfl
@[simp] theorem State.setLine_snapshots (s : State) (l : LineId) (x : Line) : (s.setLine l x).snapshots = s.snapshots := by cases l <;> rfl
@[simp] theorem State.setLine_notices (s : State) (l : LineId) (x : Line) : (s.setLine l x).notices = s.notices := by cases l <;> rfl
@[simp] theorem State.setLine_linkErrors (s : State) (l : LineId) (x : Line) : (s.setLine l x).linkErrors = s.linkErrors := by cases l <;> rfl
@[simp] theorem State.setLine_partTime (s : State) (l : LineId) (x : Line) : (s.setLine l x).partTime = s.partTime := by cases l <;> rfl
@[simp] theorem State.setLine_storeSlot0 (s : State) (l : LineId) (x : Line) : (s.setLine l x).storeSlot0 = s.storeSlot0 := by cases l <;> rfl
@[simp] theorem State.setLine_storeSlot1 (s : State) (l : LineId) (x : Line) : (s.setLine l x).storeSlot1 = s.storeSlot1 := by cases l <;> rfl
@[simp] theorem State.setLine_storeJob (s : State) (l : LineId) (x : Line) : (s.setLine l x).storeJob = s.storeJob := by cases l <;> rfl
@[simp] theorem State.setLine_configChanged (s : State) (l : LineId) (x : Line) : (s.setLine l x).configChanged = s.configChanged := by cases l <;> rfl
@[simp] theorem State.setLine_changedAfterCapture (s : State) (l : LineId) (x : Line) : (s.setLine l x).changedAfterCapture = s.changedAfterCapture := by cases l <;> rfl
@[simp] theorem State.setLine_generation (s : State) (l : LineId) (x : Line) : (s.setLine l x).generation = s.generation := by cases l <;> rfl
@[simp] theorem State.setLine_storePhases (s : State) (l : LineId) (x : Line) : (s.setLine l x).storePhases = s.storePhases := by cases l <;> rfl
@[simp] theorem State.setLine_resetting (s : State) (l : LineId) (x : Line) : (s.setLine l x).resetting = s.resetting := by cases l <;> rfl
@[simp] theorem State.setLine_pending (s : State) (l : LineId) (x : Line) : (s.setLine l x).pending = s.pending := by cases l <;> rfl

/-! ## updLine -/

@[simp] theorem State.updLine_strap (s : State) (l : LineId) (f : Line → Line) : (s.updLine l f).strap = s.strap := by cases l <;> rfl
@[simp] theorem State.updLine_slot0 (s : State) (l : LineId) (f : Line → Line) : (s.updLine l f).slot0 = s.slot0 := by cases l <;> rfl
@[simp] theorem State.updLine_slot1 (s : State) (l : LineId) (f : Line → Line) : (s.updLine l f).slot1 = s.slot1 := by cases l <;> rfl
@[simp] theorem State.updLine_slotOrder (s : State) (l : LineId) (f : Line → Line) : (s.updLine l f).slotOrder = s.slotOrder := by cases l <;> rfl
@[simp] theorem State.updLine_link (s : State) (l : LineId) (f : Line → Line) : (s.updLine l f).link = s.link := by cases l <;> rfl
@[simp] theorem State.updLine_linkAck (s : State) (l : LineId) (f : Line → Line) : (s.updLine l f).linkAck = s.linkAck := by cases l <;> rfl
@[simp] theorem State.updLine_linkByte (s : State) (l : LineId) (f : Line → Line) : (s.updLine l f).linkByte = s.linkByte := by cases l <;> rfl
@[simp] theorem State.updLine_outbound (s : State) (l : LineId) (f : Line → Line) : (s.updLine l f).outbound = s.outbound := by cases l <;> rfl
@[simp] theorem State.updLine_reserved (s : State) (l : LineId) (f : Line → Line) : (s.updLine l f).reserved = s.reserved := by cases l <;> rfl
@[simp] theorem State.updLine_tags (s : State) (l : LineId) (f : Line → Line) : (s.updLine l f).tags = s.tags := by cases l <;> rfl
@[simp] theorem State.updLine_nodes (s : State) (l : LineId) (f : Line → Line) : (s.updLine l f).nodes = s.nodes := by cases l <;> rfl
@[simp] theorem State.updLine_snapshots (s : State) (l : LineId) (f : Line → Line) : (s.updLine l f).snapshots = s.snapshots := by cases l <;> rfl
@[simp] theorem State.updLine_notices (s : State) (l : LineId) (f : Line → Line) : (s.updLine l f).notices = s.notices := by cases l <;> rfl
@[simp] theorem State.updLine_linkErrors (s : State) (l : LineId) (f : Line → Line) : (s.updLine l f).linkErrors = s.linkErrors := by cases l <;> rfl
@[simp] theorem State.updLine_partTime (s : State) (l : LineId) (f : Line → Line) : (s.updLine l f).partTime = s.partTime := by cases l <;> rfl
@[simp] theorem State.updLine_storeSlot0 (s : State) (l : LineId) (f : Line → Line) : (s.updLine l f).storeSlot0 = s.storeSlot0 := by cases l <;> rfl
@[simp] theorem State.updLine_storeSlot1 (s : State) (l : LineId) (f : Line → Line) : (s.updLine l f).storeSlot1 = s.storeSlot1 := by cases l <;> rfl
@[simp] theorem State.updLine_storeJob (s : State) (l : LineId) (f : Line → Line) : (s.updLine l f).storeJob = s.storeJob := by cases l <;> rfl
@[simp] theorem State.updLine_configChanged (s : State) (l : LineId) (f : Line → Line) : (s.updLine l f).configChanged = s.configChanged := by cases l <;> rfl
@[simp] theorem State.updLine_changedAfterCapture (s : State) (l : LineId) (f : Line → Line) : (s.updLine l f).changedAfterCapture = s.changedAfterCapture := by cases l <;> rfl
@[simp] theorem State.updLine_generation (s : State) (l : LineId) (f : Line → Line) : (s.updLine l f).generation = s.generation := by cases l <;> rfl
@[simp] theorem State.updLine_storePhases (s : State) (l : LineId) (f : Line → Line) : (s.updLine l f).storePhases = s.storePhases := by cases l <;> rfl
@[simp] theorem State.updLine_resetting (s : State) (l : LineId) (f : Line → Line) : (s.updLine l f).resetting = s.resetting := by cases l <;> rfl
@[simp] theorem State.updLine_pending (s : State) (l : LineId) (f : Line → Line) : (s.updLine l f).pending = s.pending := by cases l <;> rfl

/-! ## setNode -/

@[simp] theorem State.setNode_strap (s : State) (i : Index) (n : Option Node) : (s.setNode i n).strap = s.strap := rfl
@[simp] theorem State.setNode_slot0 (s : State) (i : Index) (n : Option Node) : (s.setNode i n).slot0 = s.slot0 := rfl
@[simp] theorem State.setNode_slot1 (s : State) (i : Index) (n : Option Node) : (s.setNode i n).slot1 = s.slot1 := rfl
@[simp] theorem State.setNode_slotOrder (s : State) (i : Index) (n : Option Node) : (s.setNode i n).slotOrder = s.slotOrder := rfl
@[simp] theorem State.setNode_link (s : State) (i : Index) (n : Option Node) : (s.setNode i n).link = s.link := rfl
@[simp] theorem State.setNode_linkAck (s : State) (i : Index) (n : Option Node) : (s.setNode i n).linkAck = s.linkAck := rfl
@[simp] theorem State.setNode_linkByte (s : State) (i : Index) (n : Option Node) : (s.setNode i n).linkByte = s.linkByte := rfl
@[simp] theorem State.setNode_outbound (s : State) (i : Index) (n : Option Node) : (s.setNode i n).outbound = s.outbound := rfl
@[simp] theorem State.setNode_reserved (s : State) (i : Index) (n : Option Node) : (s.setNode i n).reserved = s.reserved := rfl
@[simp] theorem State.setNode_tags (s : State) (i : Index) (n : Option Node) : (s.setNode i n).tags = s.tags := rfl
@[simp] theorem State.setNode_snapshots (s : State) (i : Index) (n : Option Node) : (s.setNode i n).snapshots = s.snapshots := rfl
@[simp] theorem State.setNode_notices (s : State) (i : Index) (n : Option Node) : (s.setNode i n).notices = s.notices := rfl
@[simp] theorem State.setNode_linkErrors (s : State) (i : Index) (n : Option Node) : (s.setNode i n).linkErrors = s.linkErrors := rfl
@[simp] theorem State.setNode_lineA (s : State) (i : Index) (n : Option Node) : (s.setNode i n).lineA = s.lineA := rfl
@[simp] theorem State.setNode_lineB (s : State) (i : Index) (n : Option Node) : (s.setNode i n).lineB = s.lineB := rfl
@[simp] theorem State.setNode_partTime (s : State) (i : Index) (n : Option Node) : (s.setNode i n).partTime = s.partTime := rfl
@[simp] theorem State.setNode_storeSlot0 (s : State) (i : Index) (n : Option Node) : (s.setNode i n).storeSlot0 = s.storeSlot0 := rfl
@[simp] theorem State.setNode_storeSlot1 (s : State) (i : Index) (n : Option Node) : (s.setNode i n).storeSlot1 = s.storeSlot1 := rfl
@[simp] theorem State.setNode_storeJob (s : State) (i : Index) (n : Option Node) : (s.setNode i n).storeJob = s.storeJob := rfl
@[simp] theorem State.setNode_configChanged (s : State) (i : Index) (n : Option Node) : (s.setNode i n).configChanged = s.configChanged := rfl
@[simp] theorem State.setNode_changedAfterCapture (s : State) (i : Index) (n : Option Node) : (s.setNode i n).changedAfterCapture = s.changedAfterCapture := rfl
@[simp] theorem State.setNode_generation (s : State) (i : Index) (n : Option Node) : (s.setNode i n).generation = s.generation := rfl
@[simp] theorem State.setNode_storePhases (s : State) (i : Index) (n : Option Node) : (s.setNode i n).storePhases = s.storePhases := rfl
@[simp] theorem State.setNode_resetting (s : State) (i : Index) (n : Option Node) : (s.setNode i n).resetting = s.resetting := rfl
@[simp] theorem State.setNode_pending (s : State) (i : Index) (n : Option Node) : (s.setNode i n).pending = s.pending := rfl

/-! ## setSnapshot -/

@[simp] theorem State.setSnapshot_strap (s : State) (i : Index) (x : Option Snapshot) : (s.setSnapshot i x).strap = s.strap := rfl
@[simp] theorem State.setSnapshot_slot0 (s : State) (i : Index) (x : Option Snapshot) : (s.setSnapshot i x).slot0 = s.slot0 := rfl
@[simp] theorem State.setSnapshot_slot1 (s : State) (i : Index) (x : Option Snapshot) : (s.setSnapshot i x).slot1 = s.slot1 := rfl
@[simp] theorem State.setSnapshot_slotOrder (s : State) (i : Index) (x : Option Snapshot) : (s.setSnapshot i x).slotOrder = s.slotOrder := rfl
@[simp] theorem State.setSnapshot_link (s : State) (i : Index) (x : Option Snapshot) : (s.setSnapshot i x).link = s.link := rfl
@[simp] theorem State.setSnapshot_linkAck (s : State) (i : Index) (x : Option Snapshot) : (s.setSnapshot i x).linkAck = s.linkAck := rfl
@[simp] theorem State.setSnapshot_linkByte (s : State) (i : Index) (x : Option Snapshot) : (s.setSnapshot i x).linkByte = s.linkByte := rfl
@[simp] theorem State.setSnapshot_outbound (s : State) (i : Index) (x : Option Snapshot) : (s.setSnapshot i x).outbound = s.outbound := rfl
@[simp] theorem State.setSnapshot_reserved (s : State) (i : Index) (x : Option Snapshot) : (s.setSnapshot i x).reserved = s.reserved := rfl
@[simp] theorem State.setSnapshot_tags (s : State) (i : Index) (x : Option Snapshot) : (s.setSnapshot i x).tags = s.tags := rfl
@[simp] theorem State.setSnapshot_nodes (s : State) (i : Index) (x : Option Snapshot) : (s.setSnapshot i x).nodes = s.nodes := rfl
@[simp] theorem State.setSnapshot_notices (s : State) (i : Index) (x : Option Snapshot) : (s.setSnapshot i x).notices = s.notices := rfl
@[simp] theorem State.setSnapshot_linkErrors (s : State) (i : Index) (x : Option Snapshot) : (s.setSnapshot i x).linkErrors = s.linkErrors := rfl
@[simp] theorem State.setSnapshot_lineA (s : State) (i : Index) (x : Option Snapshot) : (s.setSnapshot i x).lineA = s.lineA := rfl
@[simp] theorem State.setSnapshot_lineB (s : State) (i : Index) (x : Option Snapshot) : (s.setSnapshot i x).lineB = s.lineB := rfl
@[simp] theorem State.setSnapshot_partTime (s : State) (i : Index) (x : Option Snapshot) : (s.setSnapshot i x).partTime = s.partTime := rfl
@[simp] theorem State.setSnapshot_storeSlot0 (s : State) (i : Index) (x : Option Snapshot) : (s.setSnapshot i x).storeSlot0 = s.storeSlot0 := rfl
@[simp] theorem State.setSnapshot_storeSlot1 (s : State) (i : Index) (x : Option Snapshot) : (s.setSnapshot i x).storeSlot1 = s.storeSlot1 := rfl
@[simp] theorem State.setSnapshot_storeJob (s : State) (i : Index) (x : Option Snapshot) : (s.setSnapshot i x).storeJob = s.storeJob := rfl
@[simp] theorem State.setSnapshot_configChanged (s : State) (i : Index) (x : Option Snapshot) : (s.setSnapshot i x).configChanged = s.configChanged := rfl
@[simp] theorem State.setSnapshot_changedAfterCapture (s : State) (i : Index) (x : Option Snapshot) : (s.setSnapshot i x).changedAfterCapture = s.changedAfterCapture := rfl
@[simp] theorem State.setSnapshot_generation (s : State) (i : Index) (x : Option Snapshot) : (s.setSnapshot i x).generation = s.generation := rfl
@[simp] theorem State.setSnapshot_storePhases (s : State) (i : Index) (x : Option Snapshot) : (s.setSnapshot i x).storePhases = s.storePhases := rfl
@[simp] theorem State.setSnapshot_resetting (s : State) (i : Index) (x : Option Snapshot) : (s.setSnapshot i x).resetting = s.resetting := rfl
@[simp] theorem State.setSnapshot_pending (s : State) (i : Index) (x : Option Snapshot) : (s.setSnapshot i x).pending = s.pending := rfl

/-! ## setSlot -/

@[simp] theorem State.setSlot_strap (s : State) (id : SlotId) (x : RequestSlot) : (s.setSlot id x).strap = s.strap := by cases id <;> rfl
@[simp] theorem State.setSlot_slotOrder (s : State) (id : SlotId) (x : RequestSlot) : (s.setSlot id x).slotOrder = s.slotOrder := by cases id <;> rfl
@[simp] theorem State.setSlot_link (s : State) (id : SlotId) (x : RequestSlot) : (s.setSlot id x).link = s.link := by cases id <;> rfl
@[simp] theorem State.setSlot_linkAck (s : State) (id : SlotId) (x : RequestSlot) : (s.setSlot id x).linkAck = s.linkAck := by cases id <;> rfl
@[simp] theorem State.setSlot_linkByte (s : State) (id : SlotId) (x : RequestSlot) : (s.setSlot id x).linkByte = s.linkByte := by cases id <;> rfl
@[simp] theorem State.setSlot_outbound (s : State) (id : SlotId) (x : RequestSlot) : (s.setSlot id x).outbound = s.outbound := by cases id <;> rfl
@[simp] theorem State.setSlot_reserved (s : State) (id : SlotId) (x : RequestSlot) : (s.setSlot id x).reserved = s.reserved := by cases id <;> rfl
@[simp] theorem State.setSlot_tags (s : State) (id : SlotId) (x : RequestSlot) : (s.setSlot id x).tags = s.tags := by cases id <;> rfl
@[simp] theorem State.setSlot_nodes (s : State) (id : SlotId) (x : RequestSlot) : (s.setSlot id x).nodes = s.nodes := by cases id <;> rfl
@[simp] theorem State.setSlot_snapshots (s : State) (id : SlotId) (x : RequestSlot) : (s.setSlot id x).snapshots = s.snapshots := by cases id <;> rfl
@[simp] theorem State.setSlot_notices (s : State) (id : SlotId) (x : RequestSlot) : (s.setSlot id x).notices = s.notices := by cases id <;> rfl
@[simp] theorem State.setSlot_linkErrors (s : State) (id : SlotId) (x : RequestSlot) : (s.setSlot id x).linkErrors = s.linkErrors := by cases id <;> rfl
@[simp] theorem State.setSlot_lineA (s : State) (id : SlotId) (x : RequestSlot) : (s.setSlot id x).lineA = s.lineA := by cases id <;> rfl
@[simp] theorem State.setSlot_lineB (s : State) (id : SlotId) (x : RequestSlot) : (s.setSlot id x).lineB = s.lineB := by cases id <;> rfl
@[simp] theorem State.setSlot_partTime (s : State) (id : SlotId) (x : RequestSlot) : (s.setSlot id x).partTime = s.partTime := by cases id <;> rfl
@[simp] theorem State.setSlot_storeSlot0 (s : State) (id : SlotId) (x : RequestSlot) : (s.setSlot id x).storeSlot0 = s.storeSlot0 := by cases id <;> rfl
@[simp] theorem State.setSlot_storeSlot1 (s : State) (id : SlotId) (x : RequestSlot) : (s.setSlot id x).storeSlot1 = s.storeSlot1 := by cases id <;> rfl
@[simp] theorem State.setSlot_storeJob (s : State) (id : SlotId) (x : RequestSlot) : (s.setSlot id x).storeJob = s.storeJob := by cases id <;> rfl
@[simp] theorem State.setSlot_configChanged (s : State) (id : SlotId) (x : RequestSlot) : (s.setSlot id x).configChanged = s.configChanged := by cases id <;> rfl
@[simp] theorem State.setSlot_changedAfterCapture (s : State) (id : SlotId) (x : RequestSlot) : (s.setSlot id x).changedAfterCapture = s.changedAfterCapture := by cases id <;> rfl
@[simp] theorem State.setSlot_generation (s : State) (id : SlotId) (x : RequestSlot) : (s.setSlot id x).generation = s.generation := by cases id <;> rfl
@[simp] theorem State.setSlot_storePhases (s : State) (id : SlotId) (x : RequestSlot) : (s.setSlot id x).storePhases = s.storePhases := by cases id <;> rfl
@[simp] theorem State.setSlot_resetting (s : State) (id : SlotId) (x : RequestSlot) : (s.setSlot id x).resetting = s.resetting := by cases id <;> rfl
@[simp] theorem State.setSlot_pending (s : State) (id : SlotId) (x : RequestSlot) : (s.setSlot id x).pending = s.pending := by cases id <;> rfl

/-! ## setStoreSlot -/

@[simp] theorem State.setStoreSlot_strap (s : State) (id : SlotId) (x : StoreSlot) : (s.setStoreSlot id x).strap = s.strap := by cases id <;> rfl
@[simp] theorem State.setStoreSlot_slot0 (s : State) (id : SlotId) (x : StoreSlot) : (s.setStoreSlot id x).slot0 = s.slot0 := by cases id <;> rfl
@[simp] theorem State.setStoreSlot_slot1 (s : State) (id : SlotId) (x : StoreSlot) : (s.setStoreSlot id x).slot1 = s.slot1 := by cases id <;> rfl
@[simp] theorem State.setStoreSlot_slotOrder (s : State) (id : SlotId) (x : StoreSlot) : (s.setStoreSlot id x).slotOrder = s.slotOrder := by cases id <;> rfl
@[simp] theorem State.setStoreSlot_link (s : State) (id : SlotId) (x : StoreSlot) : (s.setStoreSlot id x).link = s.link := by cases id <;> rfl
@[simp] theorem State.setStoreSlot_linkAck (s : State) (id : SlotId) (x : StoreSlot) : (s.setStoreSlot id x).linkAck = s.linkAck := by cases id <;> rfl
@[simp] theorem State.setStoreSlot_linkByte (s : State) (id : SlotId) (x : StoreSlot) : (s.setStoreSlot id x).linkByte = s.linkByte := by cases id <;> rfl
@[simp] theorem State.setStoreSlot_outbound (s : State) (id : SlotId) (x : StoreSlot) : (s.setStoreSlot id x).outbound = s.outbound := by cases id <;> rfl
@[simp] theorem State.setStoreSlot_reserved (s : State) (id : SlotId) (x : StoreSlot) : (s.setStoreSlot id x).reserved = s.reserved := by cases id <;> rfl
@[simp] theorem State.setStoreSlot_tags (s : State) (id : SlotId) (x : StoreSlot) : (s.setStoreSlot id x).tags = s.tags := by cases id <;> rfl
@[simp] theorem State.setStoreSlot_nodes (s : State) (id : SlotId) (x : StoreSlot) : (s.setStoreSlot id x).nodes = s.nodes := by cases id <;> rfl
@[simp] theorem State.setStoreSlot_snapshots (s : State) (id : SlotId) (x : StoreSlot) : (s.setStoreSlot id x).snapshots = s.snapshots := by cases id <;> rfl
@[simp] theorem State.setStoreSlot_notices (s : State) (id : SlotId) (x : StoreSlot) : (s.setStoreSlot id x).notices = s.notices := by cases id <;> rfl
@[simp] theorem State.setStoreSlot_linkErrors (s : State) (id : SlotId) (x : StoreSlot) : (s.setStoreSlot id x).linkErrors = s.linkErrors := by cases id <;> rfl
@[simp] theorem State.setStoreSlot_lineA (s : State) (id : SlotId) (x : StoreSlot) : (s.setStoreSlot id x).lineA = s.lineA := by cases id <;> rfl
@[simp] theorem State.setStoreSlot_lineB (s : State) (id : SlotId) (x : StoreSlot) : (s.setStoreSlot id x).lineB = s.lineB := by cases id <;> rfl
@[simp] theorem State.setStoreSlot_partTime (s : State) (id : SlotId) (x : StoreSlot) : (s.setStoreSlot id x).partTime = s.partTime := by cases id <;> rfl
@[simp] theorem State.setStoreSlot_storeJob (s : State) (id : SlotId) (x : StoreSlot) : (s.setStoreSlot id x).storeJob = s.storeJob := by cases id <;> rfl
@[simp] theorem State.setStoreSlot_configChanged (s : State) (id : SlotId) (x : StoreSlot) : (s.setStoreSlot id x).configChanged = s.configChanged := by cases id <;> rfl
@[simp] theorem State.setStoreSlot_changedAfterCapture (s : State) (id : SlotId) (x : StoreSlot) : (s.setStoreSlot id x).changedAfterCapture = s.changedAfterCapture := by cases id <;> rfl
@[simp] theorem State.setStoreSlot_generation (s : State) (id : SlotId) (x : StoreSlot) : (s.setStoreSlot id x).generation = s.generation := by cases id <;> rfl
@[simp] theorem State.setStoreSlot_storePhases (s : State) (id : SlotId) (x : StoreSlot) : (s.setStoreSlot id x).storePhases = s.storePhases := by cases id <;> rfl
@[simp] theorem State.setStoreSlot_resetting (s : State) (id : SlotId) (x : StoreSlot) : (s.setStoreSlot id x).resetting = s.resetting := by cases id <;> rfl
@[simp] theorem State.setStoreSlot_pending (s : State) (id : SlotId) (x : StoreSlot) : (s.setStoreSlot id x).pending = s.pending := by cases id <;> rfl

/-! ## addTag -/

@[simp] theorem State.addTag_strap (s : State) (t : Byte) : (s.addTag t).strap = s.strap := rfl
@[simp] theorem State.addTag_slot0 (s : State) (t : Byte) : (s.addTag t).slot0 = s.slot0 := rfl
@[simp] theorem State.addTag_slot1 (s : State) (t : Byte) : (s.addTag t).slot1 = s.slot1 := rfl
@[simp] theorem State.addTag_slotOrder (s : State) (t : Byte) : (s.addTag t).slotOrder = s.slotOrder := rfl
@[simp] theorem State.addTag_link (s : State) (t : Byte) : (s.addTag t).link = s.link := rfl
@[simp] theorem State.addTag_linkAck (s : State) (t : Byte) : (s.addTag t).linkAck = s.linkAck := rfl
@[simp] theorem State.addTag_linkByte (s : State) (t : Byte) : (s.addTag t).linkByte = s.linkByte := rfl
@[simp] theorem State.addTag_outbound (s : State) (t : Byte) : (s.addTag t).outbound = s.outbound := rfl
@[simp] theorem State.addTag_reserved (s : State) (t : Byte) : (s.addTag t).reserved = s.reserved := rfl
@[simp] theorem State.addTag_nodes (s : State) (t : Byte) : (s.addTag t).nodes = s.nodes := rfl
@[simp] theorem State.addTag_snapshots (s : State) (t : Byte) : (s.addTag t).snapshots = s.snapshots := rfl
@[simp] theorem State.addTag_notices (s : State) (t : Byte) : (s.addTag t).notices = s.notices := rfl
@[simp] theorem State.addTag_linkErrors (s : State) (t : Byte) : (s.addTag t).linkErrors = s.linkErrors := rfl
@[simp] theorem State.addTag_lineA (s : State) (t : Byte) : (s.addTag t).lineA = s.lineA := rfl
@[simp] theorem State.addTag_lineB (s : State) (t : Byte) : (s.addTag t).lineB = s.lineB := rfl
@[simp] theorem State.addTag_partTime (s : State) (t : Byte) : (s.addTag t).partTime = s.partTime := rfl
@[simp] theorem State.addTag_storeSlot0 (s : State) (t : Byte) : (s.addTag t).storeSlot0 = s.storeSlot0 := rfl
@[simp] theorem State.addTag_storeSlot1 (s : State) (t : Byte) : (s.addTag t).storeSlot1 = s.storeSlot1 := rfl
@[simp] theorem State.addTag_storeJob (s : State) (t : Byte) : (s.addTag t).storeJob = s.storeJob := rfl
@[simp] theorem State.addTag_configChanged (s : State) (t : Byte) : (s.addTag t).configChanged = s.configChanged := rfl
@[simp] theorem State.addTag_changedAfterCapture (s : State) (t : Byte) : (s.addTag t).changedAfterCapture = s.changedAfterCapture := rfl
@[simp] theorem State.addTag_generation (s : State) (t : Byte) : (s.addTag t).generation = s.generation := rfl
@[simp] theorem State.addTag_storePhases (s : State) (t : Byte) : (s.addTag t).storePhases = s.storePhases := rfl
@[simp] theorem State.addTag_resetting (s : State) (t : Byte) : (s.addTag t).resetting = s.resetting := rfl
@[simp] theorem State.addTag_pending (s : State) (t : Byte) : (s.addTag t).pending = s.pending := rfl

/-! ## dropTag -/

@[simp] theorem State.dropTag_strap (s : State) (t : Byte) : (s.dropTag t).strap = s.strap := rfl
@[simp] theorem State.dropTag_slot0 (s : State) (t : Byte) : (s.dropTag t).slot0 = s.slot0 := rfl
@[simp] theorem State.dropTag_slot1 (s : State) (t : Byte) : (s.dropTag t).slot1 = s.slot1 := rfl
@[simp] theorem State.dropTag_slotOrder (s : State) (t : Byte) : (s.dropTag t).slotOrder = s.slotOrder := rfl
@[simp] theorem State.dropTag_link (s : State) (t : Byte) : (s.dropTag t).link = s.link := rfl
@[simp] theorem State.dropTag_linkAck (s : State) (t : Byte) : (s.dropTag t).linkAck = s.linkAck := rfl
@[simp] theorem State.dropTag_linkByte (s : State) (t : Byte) : (s.dropTag t).linkByte = s.linkByte := rfl
@[simp] theorem State.dropTag_outbound (s : State) (t : Byte) : (s.dropTag t).outbound = s.outbound := rfl
@[simp] theorem State.dropTag_reserved (s : State) (t : Byte) : (s.dropTag t).reserved = s.reserved := rfl
@[simp] theorem State.dropTag_nodes (s : State) (t : Byte) : (s.dropTag t).nodes = s.nodes := rfl
@[simp] theorem State.dropTag_snapshots (s : State) (t : Byte) : (s.dropTag t).snapshots = s.snapshots := rfl
@[simp] theorem State.dropTag_notices (s : State) (t : Byte) : (s.dropTag t).notices = s.notices := rfl
@[simp] theorem State.dropTag_linkErrors (s : State) (t : Byte) : (s.dropTag t).linkErrors = s.linkErrors := rfl
@[simp] theorem State.dropTag_lineA (s : State) (t : Byte) : (s.dropTag t).lineA = s.lineA := rfl
@[simp] theorem State.dropTag_lineB (s : State) (t : Byte) : (s.dropTag t).lineB = s.lineB := rfl
@[simp] theorem State.dropTag_partTime (s : State) (t : Byte) : (s.dropTag t).partTime = s.partTime := rfl
@[simp] theorem State.dropTag_storeSlot0 (s : State) (t : Byte) : (s.dropTag t).storeSlot0 = s.storeSlot0 := rfl
@[simp] theorem State.dropTag_storeSlot1 (s : State) (t : Byte) : (s.dropTag t).storeSlot1 = s.storeSlot1 := rfl
@[simp] theorem State.dropTag_storeJob (s : State) (t : Byte) : (s.dropTag t).storeJob = s.storeJob := rfl
@[simp] theorem State.dropTag_configChanged (s : State) (t : Byte) : (s.dropTag t).configChanged = s.configChanged := rfl
@[simp] theorem State.dropTag_changedAfterCapture (s : State) (t : Byte) : (s.dropTag t).changedAfterCapture = s.changedAfterCapture := rfl
@[simp] theorem State.dropTag_generation (s : State) (t : Byte) : (s.dropTag t).generation = s.generation := rfl
@[simp] theorem State.dropTag_storePhases (s : State) (t : Byte) : (s.dropTag t).storePhases = s.storePhases := rfl
@[simp] theorem State.dropTag_resetting (s : State) (t : Byte) : (s.dropTag t).resetting = s.resetting := rfl
@[simp] theorem State.dropTag_pending (s : State) (t : Byte) : (s.dropTag t).pending = s.pending := rfl

/-! ## reportChange -/

@[simp] theorem State.reportChange_strap (s : State) : (s.reportChange).strap = s.strap := rfl
@[simp] theorem State.reportChange_slot0 (s : State) : (s.reportChange).slot0 = s.slot0 := rfl
@[simp] theorem State.reportChange_slot1 (s : State) : (s.reportChange).slot1 = s.slot1 := rfl
@[simp] theorem State.reportChange_slotOrder (s : State) : (s.reportChange).slotOrder = s.slotOrder := rfl
@[simp] theorem State.reportChange_link (s : State) : (s.reportChange).link = s.link := rfl
@[simp] theorem State.reportChange_linkAck (s : State) : (s.reportChange).linkAck = s.linkAck := rfl
@[simp] theorem State.reportChange_linkByte (s : State) : (s.reportChange).linkByte = s.linkByte := rfl
@[simp] theorem State.reportChange_outbound (s : State) : (s.reportChange).outbound = s.outbound := rfl
@[simp] theorem State.reportChange_reserved (s : State) : (s.reportChange).reserved = s.reserved := rfl
@[simp] theorem State.reportChange_tags (s : State) : (s.reportChange).tags = s.tags := rfl
@[simp] theorem State.reportChange_nodes (s : State) : (s.reportChange).nodes = s.nodes := rfl
@[simp] theorem State.reportChange_snapshots (s : State) : (s.reportChange).snapshots = s.snapshots := rfl
@[simp] theorem State.reportChange_notices (s : State) : (s.reportChange).notices = s.notices := rfl
@[simp] theorem State.reportChange_linkErrors (s : State) : (s.reportChange).linkErrors = s.linkErrors := rfl
@[simp] theorem State.reportChange_lineA (s : State) : (s.reportChange).lineA = s.lineA := rfl
@[simp] theorem State.reportChange_lineB (s : State) : (s.reportChange).lineB = s.lineB := rfl
@[simp] theorem State.reportChange_partTime (s : State) : (s.reportChange).partTime = s.partTime := rfl
@[simp] theorem State.reportChange_storeSlot0 (s : State) : (s.reportChange).storeSlot0 = s.storeSlot0 := rfl
@[simp] theorem State.reportChange_storeSlot1 (s : State) : (s.reportChange).storeSlot1 = s.storeSlot1 := rfl
@[simp] theorem State.reportChange_storeJob (s : State) : (s.reportChange).storeJob = s.storeJob := rfl
@[simp] theorem State.reportChange_generation (s : State) : (s.reportChange).generation = s.generation := rfl
@[simp] theorem State.reportChange_storePhases (s : State) : (s.reportChange).storePhases = s.storePhases := rfl
@[simp] theorem State.reportChange_resetting (s : State) : (s.reportChange).resetting = s.resetting := rfl
@[simp] theorem State.reportChange_pending (s : State) : (s.reportChange).pending = s.pending := rfl

/-! ## accept -/

@[simp] theorem State.accept_strap (s : State) (id : SlotId) (rq : Request) : (s.accept id rq).strap = s.strap := by cases id <;> rfl
@[simp] theorem State.accept_link (s : State) (id : SlotId) (rq : Request) : (s.accept id rq).link = s.link := by cases id <;> rfl
@[simp] theorem State.accept_linkAck (s : State) (id : SlotId) (rq : Request) : (s.accept id rq).linkAck = s.linkAck := by cases id <;> rfl
@[simp] theorem State.accept_linkByte (s : State) (id : SlotId) (rq : Request) : (s.accept id rq).linkByte = s.linkByte := by cases id <;> rfl
@[simp] theorem State.accept_outbound (s : State) (id : SlotId) (rq : Request) : (s.accept id rq).outbound = s.outbound := by cases id <;> rfl
@[simp] theorem State.accept_tags (s : State) (id : SlotId) (rq : Request) : (s.accept id rq).tags = s.tags := by cases id <;> rfl
@[simp] theorem State.accept_nodes (s : State) (id : SlotId) (rq : Request) : (s.accept id rq).nodes = s.nodes := by cases id <;> rfl
@[simp] theorem State.accept_snapshots (s : State) (id : SlotId) (rq : Request) : (s.accept id rq).snapshots = s.snapshots := by cases id <;> rfl
@[simp] theorem State.accept_notices (s : State) (id : SlotId) (rq : Request) : (s.accept id rq).notices = s.notices := by cases id <;> rfl
@[simp] theorem State.accept_linkErrors (s : State) (id : SlotId) (rq : Request) : (s.accept id rq).linkErrors = s.linkErrors := by cases id <;> rfl
@[simp] theorem State.accept_lineA (s : State) (id : SlotId) (rq : Request) : (s.accept id rq).lineA = s.lineA := by cases id <;> rfl
@[simp] theorem State.accept_lineB (s : State) (id : SlotId) (rq : Request) : (s.accept id rq).lineB = s.lineB := by cases id <;> rfl
@[simp] theorem State.accept_partTime (s : State) (id : SlotId) (rq : Request) : (s.accept id rq).partTime = s.partTime := by cases id <;> rfl
@[simp] theorem State.accept_storeSlot0 (s : State) (id : SlotId) (rq : Request) : (s.accept id rq).storeSlot0 = s.storeSlot0 := by cases id <;> rfl
@[simp] theorem State.accept_storeSlot1 (s : State) (id : SlotId) (rq : Request) : (s.accept id rq).storeSlot1 = s.storeSlot1 := by cases id <;> rfl
@[simp] theorem State.accept_storeJob (s : State) (id : SlotId) (rq : Request) : (s.accept id rq).storeJob = s.storeJob := by cases id <;> rfl
@[simp] theorem State.accept_configChanged (s : State) (id : SlotId) (rq : Request) : (s.accept id rq).configChanged = s.configChanged := by cases id <;> rfl
@[simp] theorem State.accept_changedAfterCapture (s : State) (id : SlotId) (rq : Request) : (s.accept id rq).changedAfterCapture = s.changedAfterCapture := by cases id <;> rfl
@[simp] theorem State.accept_generation (s : State) (id : SlotId) (rq : Request) : (s.accept id rq).generation = s.generation := by cases id <;> rfl
@[simp] theorem State.accept_storePhases (s : State) (id : SlotId) (rq : Request) : (s.accept id rq).storePhases = s.storePhases := by cases id <;> rfl
@[simp] theorem State.accept_resetting (s : State) (id : SlotId) (rq : Request) : (s.accept id rq).resetting = s.resetting := by cases id <;> rfl
@[simp] theorem State.accept_pending (s : State) (id : SlotId) (rq : Request) : (s.accept id rq).pending = s.pending := by cases id <;> rfl

/-! ## The values written -/

@[simp] theorem State.addTag_tags (s : State) (t : Byte) : (s.addTag t).tags = s.tags ++ [t] := rfl
@[simp] theorem State.dropTag_tags (s : State) (t : Byte) : (s.dropTag t).tags = s.tags.filter (· ≠ t) := rfl
@[simp] theorem State.reportChange_configChanged (s : State) : s.reportChange.configChanged = true := rfl
@[simp] theorem State.reportChange_changedAfterCapture (s : State) :
    s.reportChange.changedAfterCapture = (s.changedAfterCapture || s.saving) := rfl
@[simp] theorem State.accept_slotOrder (s : State) (id : SlotId) (rq : Request) :
    (s.accept id rq).slotOrder = s.slotOrder.tail := rfl
@[simp] theorem State.accept_reserved (s : State) (id : SlotId) (rq : Request) :
    (s.accept id rq).reserved = s.reserved + rq.reservation := rfl

@[simp] theorem State.line_setLine_same (s : State) (l : LineId) (x : Line) : (s.setLine l x).line l = x := by
  cases l <;> rfl
theorem State.line_setLine_other (s : State) {l k : LineId} (x : Line) (h : k ≠ l) :
    (s.setLine l x).line k = s.line k := by
  cases l <;> cases k <;> first | rfl | exact absurd rfl h
@[simp] theorem State.line_updLine_same (s : State) (l : LineId) (f : Line → Line) :
    (s.updLine l f).line l = f (s.line l) := by
  cases l <;> rfl
theorem State.line_updLine_other (s : State) {l k : LineId} (f : Line → Line) (h : k ≠ l) :
    (s.updLine l f).line k = s.line k := State.line_setLine_other s _ h
@[simp] theorem State.setLine_setLine (s : State) (l : LineId) (x y : Line) :
    (s.setLine l x).setLine l y = s.setLine l y := by
  cases l <;> rfl
@[simp] theorem State.setLine_line (s : State) (l : LineId) : s.setLine l (s.line l) = s := by
  cases l <;> rfl

@[simp] theorem State.node_setNode_same (s : State) (i : Index) (n : Option Node) : (s.setNode i n).node i = n := by
  show (s.nodes.set i.val n i.isLt)[i.val] = n
  simp
theorem State.node_setNode_other (s : State) {i j : Index} (n : Option Node) (h : j ≠ i) :
    (s.setNode i n).node j = s.node j := by
  have h' : i.val ≠ j.val := fun e => h (Fin.ext e.symm)
  show (s.nodes.set i.val n i.isLt)[j.val] = s.nodes[j.val]
  exact Vector.getElem_set_ne _ _ h'
theorem State.node_setNode (s : State) (i j : Index) (n : Option Node) :
    (s.setNode i n).node j = if j = i then n else s.node j := by
  by_cases h : j = i
  · subst h; simp
  · simp [h, State.node_setNode_other s n h]

@[simp] theorem State.snapshot_setSnapshot_same (s : State) (i : Index) (x : Option Snapshot) :
    (s.setSnapshot i x).snapshot i = x := by
  show (s.snapshots.set i.val x i.isLt)[i.val] = x
  simp
theorem State.snapshot_setSnapshot_other (s : State) {i j : Index} (x : Option Snapshot) (h : j ≠ i) :
    (s.setSnapshot i x).snapshot j = s.snapshot j := by
  have h' : i.val ≠ j.val := fun e => h (Fin.ext e.symm)
  show (s.snapshots.set i.val x i.isLt)[j.val] = s.snapshots[j.val]
  exact Vector.getElem_set_ne _ _ h'

@[simp] theorem State.slot_setSlot_same (s : State) (id : SlotId) (x : RequestSlot) : (s.setSlot id x).slot id = x := by
  cases id <;> rfl
@[simp] theorem State.storeSlot_setStoreSlot_same (s : State) (id : SlotId) (x : StoreSlot) :
    (s.setStoreSlot id x).storeSlot id = x := by
  cases id <;> rfl

/-! ## Reads that depend on one field only -/

theorem State.line_congr {s t : State} (ha : t.lineA = s.lineA) (hb : t.lineB = s.lineB) (l : LineId) :
    t.line l = s.line l := by
  cases l <;> assumption
theorem State.node_congr {s t : State} (h : t.nodes = s.nodes) (i : Index) : t.node i = s.node i := by
  simp [State.node, h]
theorem State.snapshot_congr {s t : State} (h : t.snapshots = s.snapshots) (i : Index) : t.snapshot i = s.snapshot i := by
  simp [State.snapshot, h]

/-! ## Reads past an update of another place -/
@[simp] theorem State.line_setNode (s : State) (i : Index) (n : Option Node) (k : LineId) : (s.setNode i n).line k = s.line k :=
  State.line_congr (by simp) (by simp) _
@[simp] theorem State.snapshot_setNode (s : State) (i : Index) (n : Option Node) (j : Index) : (s.setNode i n).snapshot j = s.snapshot j :=
  State.snapshot_congr (by simp) _
@[simp] theorem State.line_setSnapshot (s : State) (i : Index) (x : Option Snapshot) (k : LineId) : (s.setSnapshot i x).line k = s.line k :=
  State.line_congr (by simp) (by simp) _
@[simp] theorem State.node_setSnapshot (s : State) (i : Index) (x : Option Snapshot) (j : Index) : (s.setSnapshot i x).node j = s.node j :=
  State.node_congr (by simp) _
@[simp] theorem State.line_setSlot (s : State) (id : SlotId) (x : RequestSlot) (k : LineId) : (s.setSlot id x).line k = s.line k :=
  State.line_congr (by simp) (by simp) _
@[simp] theorem State.node_setSlot (s : State) (id : SlotId) (x : RequestSlot) (j : Index) : (s.setSlot id x).node j = s.node j :=
  State.node_congr (by simp) _
@[simp] theorem State.snapshot_setSlot (s : State) (id : SlotId) (x : RequestSlot) (j : Index) : (s.setSlot id x).snapshot j = s.snapshot j :=
  State.snapshot_congr (by simp) _
@[simp] theorem State.line_setStoreSlot (s : State) (id : SlotId) (x : StoreSlot) (k : LineId) : (s.setStoreSlot id x).line k = s.line k :=
  State.line_congr (by simp) (by simp) _
@[simp] theorem State.node_setStoreSlot (s : State) (id : SlotId) (x : StoreSlot) (j : Index) : (s.setStoreSlot id x).node j = s.node j :=
  State.node_congr (by simp) _
@[simp] theorem State.snapshot_setStoreSlot (s : State) (id : SlotId) (x : StoreSlot) (j : Index) : (s.setStoreSlot id x).snapshot j = s.snapshot j :=
  State.snapshot_congr (by simp) _
@[simp] theorem State.line_addTag (s : State) (t : Byte) (k : LineId) : (s.addTag t).line k = s.line k :=
  State.line_congr (by simp) (by simp) _
@[simp] theorem State.node_addTag (s : State) (t : Byte) (j : Index) : (s.addTag t).node j = s.node j :=
  State.node_congr (by simp) _
@[simp] theorem State.snapshot_addTag (s : State) (t : Byte) (j : Index) : (s.addTag t).snapshot j = s.snapshot j :=
  State.snapshot_congr (by simp) _
@[simp] theorem State.line_dropTag (s : State) (t : Byte) (k : LineId) : (s.dropTag t).line k = s.line k :=
  State.line_congr (by simp) (by simp) _
@[simp] theorem State.node_dropTag (s : State) (t : Byte) (j : Index) : (s.dropTag t).node j = s.node j :=
  State.node_congr (by simp) _
@[simp] theorem State.snapshot_dropTag (s : State) (t : Byte) (j : Index) : (s.dropTag t).snapshot j = s.snapshot j :=
  State.snapshot_congr (by simp) _
@[simp] theorem State.line_reportChange (s : State) (k : LineId) : (s.reportChange).line k = s.line k :=
  State.line_congr (by simp) (by simp) _
@[simp] theorem State.node_reportChange (s : State) (j : Index) : (s.reportChange).node j = s.node j :=
  State.node_congr (by simp) _
@[simp] theorem State.snapshot_reportChange (s : State) (j : Index) : (s.reportChange).snapshot j = s.snapshot j :=
  State.snapshot_congr (by simp) _
@[simp] theorem State.line_accept (s : State) (id : SlotId) (rq : Request) (k : LineId) : (s.accept id rq).line k = s.line k :=
  State.line_congr (by simp) (by simp) _
@[simp] theorem State.node_accept (s : State) (id : SlotId) (rq : Request) (j : Index) : (s.accept id rq).node j = s.node j :=
  State.node_congr (by simp) _
@[simp] theorem State.snapshot_accept (s : State) (id : SlotId) (rq : Request) (j : Index) : (s.accept id rq).snapshot j = s.snapshot j :=
  State.snapshot_congr (by simp) _
@[simp] theorem State.node_setLine (s : State) (l : LineId) (x : Line) (j : Index) : (s.setLine l x).node j = s.node j :=
  State.node_congr (by simp) _
@[simp] theorem State.snapshot_setLine (s : State) (l : LineId) (x : Line) (j : Index) : (s.setLine l x).snapshot j = s.snapshot j :=
  State.snapshot_congr (by simp) _
@[simp] theorem State.node_updLine (s : State) (l : LineId) (f : Line → Line) (j : Index) : (s.updLine l f).node j = s.node j :=
  State.node_congr (by simp) _
@[simp] theorem State.snapshot_updLine (s : State) (l : LineId) (f : Line → Line) (j : Index) : (s.updLine l f).snapshot j = s.snapshot j :=
  State.snapshot_congr (by simp) _

end Sys2Proof.Machine
end

