-- ==== Sys2Proof/Laws/Outbound.lean ====
section
/-! SUPPORT. What the operations on the outbound queue, the pending notice list and the tag registry can do: for each, what
it leaves unchanged, that it keeps law L5 (no notice twice), and what it does to the space accounts of law L1. -/

namespace Sys2Proof.Machine

/-! ## Only the message side differs -/

/-- Only the outbound queue, the reservation total, the tag registry, the pending notice list and the link error count may
differ. -/
structure QueueOnly (s t : State) : Prop where
  strap : t.strap = s.strap
  slot0 : t.slot0 = s.slot0
  slot1 : t.slot1 = s.slot1
  slotOrder : t.slotOrder = s.slotOrder
  link : t.link = s.link
  linkAck : t.linkAck = s.linkAck
  linkByte : t.linkByte = s.linkByte
  nodes : t.nodes = s.nodes
  snapshots : t.snapshots = s.snapshots
  lineA : t.lineA = s.lineA
  lineB : t.lineB = s.lineB
  partTime : t.partTime = s.partTime
  storeSlot0 : t.storeSlot0 = s.storeSlot0
  storeSlot1 : t.storeSlot1 = s.storeSlot1
  storeJob : t.storeJob = s.storeJob
  configChanged : t.configChanged = s.configChanged
  changedAfterCapture : t.changedAfterCapture = s.changedAfterCapture
  generation : t.generation = s.generation
  storePhases : t.storePhases = s.storePhases
  resetting : t.resetting = s.resetting
  pending : t.pending = s.pending

theorem QueueOnly.refl (s : State) : QueueOnly s s := by constructor <;> rfl

theorem QueueOnly.trans {s t u : State} (h : QueueOnly s t) (g : QueueOnly t u) : QueueOnly s u :=
  ⟨g.strap.trans h.strap, g.slot0.trans h.slot0, g.slot1.trans h.slot1, g.slotOrder.trans h.slotOrder,
    g.link.trans h.link, g.linkAck.trans h.linkAck, g.linkByte.trans h.linkByte, g.nodes.trans h.nodes,
    g.snapshots.trans h.snapshots, g.lineA.trans h.lineA, g.lineB.trans h.lineB, g.partTime.trans h.partTime,
    g.storeSlot0.trans h.storeSlot0, g.storeSlot1.trans h.storeSlot1, g.storeJob.trans h.storeJob, g.configChanged.trans h.configChanged,
    g.changedAfterCapture.trans h.changedAfterCapture, g.generation.trans h.generation, g.storePhases.trans h.storePhases,
    g.resetting.trans h.resetting, g.pending.trans h.pending⟩

theorem QueueOnly.line {s t : State} (h : QueueOnly s t) (l : LineId) : t.line l = s.line l :=
  State.line_congr h.lineA h.lineB l
theorem QueueOnly.node {s t : State} (h : QueueOnly s t) (i : Index) : t.node i = s.node i := State.node_congr h.nodes i
theorem QueueOnly.snapshot {s t : State} (h : QueueOnly s t) (i : Index) : t.snapshot i = s.snapshot i :=
  State.snapshot_congr h.snapshots i

theorem State.admitNotice_queueOnly (s : State) (sub : Subject) : QueueOnly s (s.admitNotice sub) := by
  unfold State.admitNotice; split <;> constructor <;> rfl

theorem State.mark_queueOnly (s : State) (sub : Subject) : QueueOnly s (s.mark sub) := by
  unfold State.mark
  split
  · exact .refl s
  split
  · exact s.admitNotice_queueOnly sub
  · constructor <;> rfl

theorem walkFrom_queueOnly (todo passed : List Subject) (s : State) : QueueOnly s (walkFrom todo passed s) := by
  induction todo generalizing passed s with
  | nil => constructor <;> rfl
  | cons sub rest ih =>
    unfold walkFrom
    split
    · split
      · exact (s.admitNotice_queueOnly sub).trans (ih passed _)
      · constructor <;> rfl
    · exact ih _ s

theorem State.walk_queueOnly (s : State) : QueueOnly s s.walk := walkFrom_queueOnly _ _ s

theorem State.withdraw_queueOnly (s : State) (i : Index) : QueueOnly s (s.withdraw i) :=
  QueueOnly.trans (by constructor <;> rfl) (State.walk_queueOnly _)

theorem State.rejectFrame_queueOnly (s : State) : QueueOnly s s.rejectFrame :=
  QueueOnly.trans (by constructor <;> rfl) (State.mark_queueOnly _ _)

theorem State.queueReply_queueOnly (s : State) (reservation : Nat) (r : Reply) : QueueOnly s (s.queueReply reservation r) := by
  unfold State.queueReply
  dsimp only
  split
  · exact QueueOnly.trans (by constructor <;> rfl) (State.walk_queueOnly _)
  · constructor <;> rfl

theorem State.answer_queueOnly (s : State) (rq : Request) (status : Status) (data : List Byte) :
    QueueOnly s (s.answer rq status data) := s.queueReply_queueOnly _ _

theorem State.addTag_queueOnly (s : State) (t : Byte) : QueueOnly s (s.addTag t) := by constructor <;> rfl

theorem State.dropTag_queueOnly (s : State) (t : Byte) : QueueOnly s (s.dropTag t) := by constructor <;> rfl

theorem State.replyEntry_queueOnly (s : State) (l : LineId) (status : Status) (e : DemandEntry) :
    QueueOnly s (s.replyEntry l status e) := (s.dropTag_queueOnly _).trans (State.queueReply_queueOnly _ _ _)

theorem foldl_replyEntry_queueOnly (es : List DemandEntry) (l : LineId) (status : Status) (s : State) :
    QueueOnly s (es.foldl (fun s e => s.replyEntry l status e) s) := by
  induction es generalizing s with
  | nil => exact .refl s
  | cons e es ih => exact (s.replyEntry_queueOnly l status e).trans (ih _)

/-- A state that differs from another in the message side alone is that other with the message side replaced. -/
theorem QueueOnly.eq {s t : State} (h : QueueOnly s t) :
    t = { s with
      outbound := t.outbound, reserved := t.reserved, tags := t.tags, notices := t.notices, linkErrors := t.linkErrors } := by
  obtain ⟨⟩ := s
  obtain ⟨⟩ := t
  obtain ⟨h1, h2, h3, h4, h5, h6, h7, h8, h9, h10, h11, h12, h13, h14, h15, h16, h17, h18, h19, h20, h21⟩ := h
  simp_all

theorem QueueOnly.liveNode {s t : State} (h : QueueOnly s t) (i : Index) : t.liveNode i = s.liveNode i := by
  simp [State.liveNode, h.node i]

theorem QueueOnly.attached {s t : State} (h : QueueOnly s t) (i : Index) : t.attached i = s.attached i := by
  simp [State.attached, h.node i]

/-! ## What is posted -/

/-- A notice that can be built has the subject it was built for, and its subject's length. -/
theorem State.buildNotice_spec {s : State} {sub : Subject} {n : Notice} (h : s.buildNotice sub = some n) :
    (Message.notice n).subject = some sub ∧ (Message.notice n).length = sub.length := by
  cases sub with
  | nodeState i =>
    simp only [State.buildNotice, Option.map_eq_some_iff] at h
    obtain ⟨m, hm, rfl⟩ := h
    have hr : m.state ≠ .removing := by
      unfold State.liveNode at hm
      split at hm
      · split at hm
        · cases hm
        · cases hm; assumption
      · cases hm
    refine ⟨rfl, ?_⟩
    cases hs : m.state <;>
      simp_all [Message.length, Message.body, Notice.body, Subject.length, NodeState.bytes, NodeState.code]
  | change i =>
    simp only [State.buildNotice, Option.map_eq_some_iff] at h
    obtain ⟨m, -, rfl⟩ := h
    exact ⟨rfl, rfl⟩
  | lineState l => cases h; exact ⟨rfl, rfl⟩
  | linkError => cases h; exact ⟨rfl, rfl⟩

theorem State.occupied_append (s : State) (ms : List Message) :
    ({ s with outbound := s.outbound ++ ms } : State).occupied = s.occupied + (ms.map Message.length).sum := by
  simp [State.occupied]

/-- The replies of one list after another. -/
@[simp] theorem repliesOf_append (ms ns : List Message) : repliesOf (ms ++ ns) = repliesOf ms ++ repliesOf ns := by
  simp [repliesOf]
@[simp] theorem repliesOf_nil : repliesOf [] = [] := rfl
@[simp] theorem repliesOf_reply (r : Reply) : repliesOf [.reply r] = [r] := rfl
@[simp] theorem repliesOf_notice (n : Notice) : repliesOf [.notice n] = [] := rfl

/-- What an operation of the message side can do: besides `QueueOnly`, it appends messages whose replies are `rs`, it keeps every
subject reported and the pending list in order, with only `marked` new in it, the link error count moves only with its notice, and
it keeps law L5. -/
structure Posts (s t : State) (rs : List Reply) (marked : Option Subject) : Prop where
  core : QueueOnly s t
  appended : ∃ ms, t.outbound = s.outbound ++ ms ∧ repliesOf ms = rs
  kept : s.NoticesKept t marked.toList
  single : s.NoticesSingle → t.NoticesSingle

theorem State.NoticesKept.refl (s : State) : s.NoticesKept s [] := ⟨fun _ h => h, by simp, .inl rfl⟩

/-- Messages are only appended, so a queued notice stays queued. -/
theorem State.noticeQueued_append {s t : State} {ms : List Message} (h : t.outbound = s.outbound ++ ms) {sub : Subject}
    (hs : s.noticeQueued sub = true) : t.noticeQueued sub = true := by
  simp [State.noticeQueued, h] at hs ⊢
  exact .inl hs

theorem State.NoticesKept.trans {s t u : State} {marked : List Subject} {ms ns : List Message} (h : s.NoticesKept t [])
    (g : t.NoticesKept u marked) (ht : t.outbound = s.outbound ++ ms) (hu : u.outbound = t.outbound ++ ns) :
    s.NoticesKept u marked := by
  refine ⟨fun sub hs => g.reported sub (h.reported sub hs),
    g.order.trans (List.Sublist.append_right (by simpa using h.order) _), ?_⟩
  rcases g.count with hg | ⟨h0, hq, hr⟩
  · rcases h.count with hh | ⟨h0, hq, hr⟩
    · exact .inl (hg.trans hh)
    · exact .inr ⟨hg.trans h0, hq, State.noticeQueued_append hu hr⟩
  · refine .inr ⟨h0, ?_, hr⟩
    cases hs : s.noticeQueued .linkError with
    | false => rfl
    | true => rw [State.noticeQueued_append ht hs] at hq; cases hq

theorem Posts.refl (s : State) : Posts s s [] none := ⟨.refl s, ⟨[], by simp, rfl⟩, .refl s, fun h => h⟩

theorem Posts.reported {s t : State} {rs : List Reply} {m : Option Subject} (h : Posts s t rs m) {sub : Subject}
    (hs : s.Reported sub) : t.Reported sub := h.kept.reported sub hs

/-- What is pending afterwards was pending, or is what was marked. -/
theorem Posts.pending {s t : State} {rs : List Reply} {m : Option Subject} (h : Posts s t rs m) {sub : Subject}
    (hs : sub ∈ t.notices) : sub ∈ s.notices ∨ m = some sub := by
  have := h.kept.order.subset hs
  simpa [Option.mem_toList] using this

theorem Posts.trans {s t u : State} {rs qs : List Reply} {m : Option Subject} (h : Posts s t rs none) (g : Posts t u qs m) :
    Posts s u (rs ++ qs) m := by
  obtain ⟨ms, hm, rfl⟩ := h.appended
  obtain ⟨ns, hn, rfl⟩ := g.appended
  exact ⟨h.core.trans g.core, ⟨ms ++ ns, by rw [hn, hm, List.append_assoc], by simp⟩, h.kept.trans g.kept hm hn,
    fun hs => g.single (h.single hs)⟩

theorem Posts.of_none {s t : State} {rs : List Reply} (h : Posts s t rs none) (m : Option Subject) : Posts s t rs m :=
  { h with kept := { h.kept with order := h.kept.order.trans (by simp) } }

theorem State.noticeQueued_iff (s : State) (sub : Subject) :
    s.noticeQueued sub = true ↔ sub ∈ s.outbound.filterMap Message.subject := by
  simp [State.noticeQueued, List.mem_filterMap]

/-- An eligible subject has a notice, and none in the queue. -/
theorem State.eligible_spec {s : State} {sub : Subject} (h : s.eligible sub = true) :
    ∃ n, s.buildNotice sub = some n ∧ sub ∉ s.outbound.filterMap Message.subject := by
  simp only [State.eligible, Bool.and_eq_true, Bool.not_eq_true', Option.isSome_iff_exists] at h
  obtain ⟨hq, n, hn⟩ := h
  refine ⟨n, hn, fun hm => ?_⟩
  rw [(s.noticeQueued_iff sub).mpr hm] at hq
  cases hq

/-- A list without repeats, and one more that is not in it. -/
theorem nodup_snoc {l : List Subject} {x : Subject} (h : l.Nodup) (hx : x ∉ l) : (l ++ [x]).Nodup := by
  refine List.nodup_append.mpr ⟨h, by simp, ?_⟩
  rintro a ha b hb rfl
  rw [List.mem_singleton] at hb
  exact hx (hb ▸ ha)

/-- The admission of an eligible subject that fits: its notice is appended, and no other part of the queue's accounts moves. -/
theorem State.admitNotice_posts {s : State} {sub : Subject} (h : s.eligible sub = true) (hf : sub.length ≤ s.freeSpace) :
    Posts s (s.admitNotice sub) [] none ∧ (s.admitNotice sub).noticeQueued sub = true ∧
      (s.admitNotice sub).notices = s.notices ∧ (s.admitNotice sub).reserved = s.reserved ∧ (s.admitNotice sub).tags = s.tags ∧
      (s.SpaceKept → (s.admitNotice sub).SpaceKept) := by
  obtain ⟨n, hn, hq⟩ := State.eligible_spec h
  obtain ⟨hsub, hlen⟩ := State.buildNotice_spec hn
  have ha : s.admitNotice sub = { s with
      outbound := s.outbound ++ [.notice n], linkErrors := if sub = .linkError then 0 else s.linkErrors } := by
    simp [State.admitNotice, hn]
  have hpos : 0 < sub.length := by cases sub <;> simp [Subject.length]
  have hnow : (s.admitNotice sub).noticeQueued sub = true := by rw [State.noticeQueued_iff, ha]; simp [hsub]
  refine ⟨⟨s.admitNotice_queueOnly sub, ⟨[.notice n], by rw [ha], rfl⟩, ⟨?_, by simp [ha], ?_⟩, ?_⟩, hnow, by rw [ha], by rw [ha],
    by rw [ha], ?_⟩
  · rintro x (hx | hx)
    · exact .inl (by rw [ha]; exact hx)
    · exact .inr (State.noticeQueued_append (ms := [.notice n]) (by rw [ha]) hx)
  · by_cases hl : sub = .linkError
    · subst hl
      refine .inr ⟨by simp [ha], ?_, hnow⟩
      cases hs : s.noticeQueued .linkError with
      | false => rfl
      | true => exact absurd ((s.noticeQueued_iff _).mp hs) hq
    · exact .inl (by simp [ha, hl])
  · intro hs
    refine ⟨by rw [ha]; exact hs.pending_once, ?_⟩
    rw [ha]
    simp only [List.filterMap_append, List.filterMap_cons, hsub, List.filterMap_nil]
    exact nodup_snoc hs.queued_once hq
  · intro hs
    unfold State.SpaceKept at *
    rw [ha]
    simp only [State.occupied, List.map_append, List.sum_append, List.map_cons, List.map_nil, List.sum_cons, List.sum_nil] at *
    unfold State.freeSpace State.occupied at hf
    omega

/-- The walk's own parts: what stays pending was pending, and nothing but notices enters the queue. -/
theorem walkFrom_posts (todo passed : List Subject) (s : State) (hn : s.notices = passed ++ todo) :
    Posts s (walkFrom todo passed s) [] none ∧ (walkFrom todo passed s).notices.Sublist s.notices ∧
      (walkFrom todo passed s).reserved = s.reserved ∧ (walkFrom todo passed s).tags = s.tags ∧
      (s.SpaceKept → (walkFrom todo passed s).SpaceKept) := by
  suffices h : ∀ (todo passed : List Subject) (s : State),
      QueueOnly s (walkFrom todo passed s) ∧
      (∃ ms, (walkFrom todo passed s).outbound = s.outbound ++ ms ∧ repliesOf ms = []) ∧
      (∀ sub, (sub ∈ passed ++ todo ∨ s.noticeQueued sub = true) → (walkFrom todo passed s).Reported sub) ∧
      (walkFrom todo passed s).notices.Sublist (passed ++ todo) ∧
      ((walkFrom todo passed s).linkErrors = s.linkErrors ∨ (walkFrom todo passed s).linkErrors = 0 ∧
        s.noticeQueued .linkError = false ∧ (walkFrom todo passed s).noticeQueued .linkError = true) ∧
      ((s.outbound.filterMap Message.subject).Nodup → ((walkFrom todo passed s).outbound.filterMap Message.subject).Nodup) ∧
      (walkFrom todo passed s).reserved = s.reserved ∧ (walkFrom todo passed s).tags = s.tags ∧
      (s.SpaceKept → (walkFrom todo passed s).SpaceKept) by
    obtain ⟨h1, h2, h3, h4, hc, h5, h6, h7, h8⟩ := h todo passed s
    rw [← hn] at h3 h4
    exact ⟨⟨h1, h2, ⟨h3, by simpa using h4, hc⟩, fun hs => ⟨hs.pending_once.sublist h4, h5 hs.queued_once⟩⟩, h4, h6, h7, h8⟩
  intro todo
  induction todo with
  | nil =>
    intro passed s
    refine ⟨by constructor <;> rfl, ⟨[], by simp [walkFrom], rfl⟩, ?_, by simp [walkFrom], .inl rfl, by simp [walkFrom], rfl, rfl,
      fun h => h⟩
    rintro sub (h | h)
    · exact .inl (by simpa [walkFrom] using h)
    · exact .inr h
  | cons sub rest ih =>
    intro passed s
    unfold walkFrom
    split
    · rename_i he
      split
      · rename_i hf
        obtain ⟨g1, g2, g3, g4, g5, g6⟩ := State.admitNotice_posts he hf
        obtain ⟨h1, ⟨ms, hm, hr⟩, h3, h4, hc, h5, h6, h7, h8⟩ := ih passed (s.admitNotice sub)
        obtain ⟨ns, hns, hnr⟩ := g1.appended
        refine ⟨g1.core.trans h1, ⟨ns ++ ms, by rw [hm, hns, List.append_assoc], by simp [hr, hnr]⟩, ?_, ?_, ?_, ?_,
          h6.trans g4, h7.trans g5, fun h => h8 (g6 h)⟩
        · rintro x (hx | hx)
          · simp only [List.mem_append, List.mem_cons] at hx
            rcases hx with hx | rfl | hx
            · exact h3 x (.inl (by simp [hx]))
            · exact h3 x (.inr g2)
            · exact h3 x (.inl (by simp [hx]))
          · exact h3 x (.inr (State.noticeQueued_append hns hx))
        · exact h4.trans (List.Sublist.append_left (List.sublist_cons_self _ _) _)
        · rcases hc with hc | ⟨h0, hq, hr⟩
          · rcases g1.kept.count with hk | ⟨h0, hq, hr⟩
            · exact .inl (hc.trans hk)
            · exact .inr ⟨hc.trans h0, hq, State.noticeQueued_append hm hr⟩
          · refine .inr ⟨h0, ?_, hr⟩
            cases hs : s.noticeQueued .linkError with
            | false => rfl
            | true => rw [State.noticeQueued_append hns hs] at hq; cases hq
        · intro hs
          refine h5 ?_
          obtain ⟨n, hb, hq⟩ := State.eligible_spec he
          obtain ⟨hsub, -⟩ := State.buildNotice_spec hb
          simp only [State.admitNotice, hb, List.filterMap_append, List.filterMap_cons, hsub, List.filterMap_nil]
          exact nodup_snoc hs hq
      · refine ⟨by constructor <;> rfl, ⟨[], by simp, rfl⟩, ?_, .refl _, .inl rfl, fun h => h, rfl, rfl, fun h => h⟩
        rintro x (hx | hx)
        · exact .inl hx
        · exact .inr hx
    · obtain ⟨h1, h2, h3, h4, hc, h5, h6, h7, h8⟩ := ih (passed ++ [sub]) s
      refine ⟨h1, h2, ?_, ?_, hc, h5, h6, h7, h8⟩
      · intro x hx
        exact h3 x (by simpa using hx)
      · simpa using h4

/-- The walk posts notices alone. -/
theorem State.walk_posts (s : State) :
    Posts s s.walk [] none ∧ s.walk.notices.Sublist s.notices ∧ s.walk.reserved = s.reserved ∧ s.walk.tags = s.tags ∧
      (s.SpaceKept → s.walk.SpaceKept) := walkFrom_posts s.notices [] s rfl

/-- A mark reports its subject. -/
theorem State.mark_posts (s : State) (sub : Subject) :
    Posts s (s.mark sub) [] (some sub) ∧ (s.mark sub).Reported sub ∧ (s.mark sub).reserved = s.reserved ∧
      (s.mark sub).tags = s.tags ∧ (s.SpaceKept → (s.mark sub).SpaceKept) := by
  unfold State.mark
  split
  · rename_i h
    exact ⟨(Posts.refl s).of_none _, .inl h, rfl, rfl, fun h => h⟩
  split
  · rename_i h
    obtain ⟨g1, g2, -, g4, g5, g6⟩ := State.admitNotice_posts h.2.1 h.2.2
    exact ⟨g1.of_none _, .inr g2, g4, g5, g6⟩
  · rename_i h _
    refine ⟨⟨by constructor <;> rfl, ⟨[], by simp, rfl⟩, ⟨?_, by simp, .inl rfl⟩, ?_⟩, .inl (by simp), rfl, rfl, fun h => h⟩
    · rintro x (hx | hx)
      · exact .inl (by simp [hx])
      · exact .inr hx
    · intro hs
      exact ⟨nodup_snoc hs.pending_once h, hs.queued_once⟩

/-- A reply posts itself, and then notices alone; its reservation is released. -/
theorem State.queueReply_posts (s : State) (reservation : Nat) (r : Reply) :
    Posts s (s.queueReply reservation r) [r] none ∧ (s.queueReply reservation r).notices.Sublist s.notices ∧
      (s.queueReply reservation r).reserved = s.reserved - reservation ∧ (s.queueReply reservation r).tags = s.tags ∧
      ((Message.reply r).length ≤ reservation → reservation ≤ s.reserved → s.SpaceKept →
        (s.queueReply reservation r).SpaceKept) := by
  have hq : ∀ u : State, u = { s with reserved := s.reserved - reservation, outbound := s.outbound ++ [.reply r] } →
      Posts s u [r] none ∧ ((Message.reply r).length ≤ reservation → reservation ≤ s.reserved → s.SpaceKept → u.SpaceKept) := by
    rintro u rfl
    refine ⟨⟨by constructor <;> rfl, ⟨[.reply r], rfl, rfl⟩, ⟨?_, by simp, .inl rfl⟩, ?_⟩, ?_⟩
    · rintro x (hx | hx)
      · exact .inl hx
      · exact .inr (State.noticeQueued_append (ms := [.reply r]) rfl hx)
    · intro hs
      refine ⟨hs.pending_once, ?_⟩
      rw [show List.filterMap Message.subject (s.outbound ++ [Message.reply r]) = s.outbound.filterMap Message.subject by
        rw [List.filterMap_append]; exact List.append_nil _]
      exact hs.queued_once
    · intro h1 h2 h3
      unfold State.SpaceKept State.occupied at *
      simp only [List.map_append, List.sum_append, List.map_cons, List.map_nil, List.sum_cons, List.sum_nil]
      omega
  obtain ⟨g1, g2⟩ := hq _ rfl
  unfold State.queueReply
  dsimp only
  split
  · obtain ⟨w1, w2, w3, w4, w5⟩ := State.walk_posts { s with
      reserved := s.reserved - reservation, outbound := s.outbound ++ [.reply r] }
    exact ⟨g1.trans w1, w2, w3, w4, fun a b c => w5 (g2 a b c)⟩
  · exact ⟨g1, .refl _, rfl, rfl, g2⟩

end Sys2Proof.Machine
end

