-- ==== Sys2Proof/Laws/Lines.lean ====
section
/-! SUPPORT. What the operations that end a line's work can do: purges, flushes, the end of a scan job, of an attempt and of a
transaction, and the changes to FAULT and OFF, each an update of the named fields, followed by replies and notices alone; and what
the end of SENDING can do. -/

namespace Sys2Proof.Machine

/-! ## Replies that settle reservations -/

/-- Replies are queued, reservations of `n` bytes released and tags dropped; if no reply is longer than its reservation (`ok`),
law L1 is kept. -/
structure Settles (s t : State) (rs : List Reply) (n : Nat) (ok : Prop) : Prop where
  posts : Posts s t rs none
  reserved : t.reserved = s.reserved - n
  tags : t.tags.Sublist s.tags
  space : ok → n ≤ s.reserved → s.SpaceKept → t.SpaceKept

theorem Settles.refl (s : State) : Settles s s [] 0 True := ⟨.refl s, by simp, .refl _, fun _ _ h => h⟩

theorem Settles.trans {s t u : State} {rs qs : List Reply} {n m : Nat} {p q : Prop} (h : Settles s t rs n p)
    (g : Settles t u qs m q) : Settles s u (rs ++ qs) (n + m) (p ∧ q) := by
  refine ⟨h.posts.trans g.posts, ?_, g.tags.trans h.tags, ?_⟩
  · rw [g.reserved, h.reserved]; omega
  · intro hp hn hs
    exact g.space hp.2 (by rw [h.reserved]; omega) (h.space hp.1 (by omega) hs)

theorem Settles.imp {s t : State} {rs : List Reply} {n : Nat} {p q : Prop} (h : Settles s t rs n p) (hq : q → p) :
    Settles s t rs n q := { h with space := fun a => h.space (hq a) }

theorem State.queueReply_settles (s : State) (n : Nat) (r : Reply) :
    Settles s (s.queueReply n r) [r] n ((Message.reply r).length ≤ n) := by
  obtain ⟨h1, -, h3, h4, h5⟩ := s.queueReply_posts n r
  exact ⟨h1, h3, by rw [h4], h5⟩

theorem State.walk_settles (s : State) : Settles s s.walk [] 0 True := by
  obtain ⟨h1, -, h3, h4, h5⟩ := s.walk_posts
  exact ⟨h1, by simp [h3], by rw [h4], fun _ _ => h5⟩

theorem State.dropTag_settles (s : State) (t : Byte) : Settles s (s.dropTag t) [] 0 True :=
  ⟨⟨s.dropTag_queueOnly t, ⟨[], by simp, rfl⟩, ⟨fun _ h => h, by simp, .inl rfl⟩, fun h => ⟨h.1, h.2⟩⟩, by simp,
    List.filter_sublist, fun _ _ h => h⟩

theorem State.replyEntry_settles (s : State) (l : LineId) (status : Status) (e : DemandEntry) :
    Settles s (s.replyEntry l status e) [demandReply l e.tag e.node e.operation status []] e.reserved
      ((Message.reply (demandReply l e.tag e.node e.operation status [])).length ≤ e.reserved) := by
  have := (s.dropTag_settles e.tag).trans ((s.dropTag e.tag).queueReply_settles e.reserved
    (demandReply l e.tag e.node e.operation status []))
  simpa [State.replyEntry] using this

/-- Every entry's reply fits its reservation. -/
def EntriesFit (l : LineId) (status : Status) (es : List DemandEntry) : Prop :=
  ∀ e ∈ es, (Message.reply (demandReply l e.tag e.node e.operation status [])).length ≤ e.reserved

theorem replyEntries_settles (es : List DemandEntry) (l : LineId) (status : Status) (s : State) :
    Settles s (es.foldl (fun s e => s.replyEntry l status e) s)
      (es.map fun e => demandReply l e.tag e.node e.operation status []) (es.map DemandEntry.reserved).sum
      (EntriesFit l status es) := by
  induction es generalizing s with
  | nil => exact (Settles.refl s).imp fun _ => trivial
  | cons e es ih =>
    have := (s.replyEntry_settles l status e).trans (ih (s.replyEntry l status e))
    simpa using this.imp fun h => ⟨h e (by simp), fun x hx => h x (by simp [hx])⟩

/-- A purge: the entries of the index leave the queue, and each is answered (R117). -/
theorem State.purge_settles (s : State) (l : LineId) (i : Index) (status : Status) :
    let leaving := (s.line l).demandQueue.filter fun e => e.node = some i
    Settles (s.updLine l fun x => { x with demandQueue := x.demandQueue.filter fun e => e.node ≠ some i }) (s.purge l i status)
      (leaving.map fun e => demandReply l e.tag e.node e.operation status []) (leaving.map DemandEntry.reserved).sum
      (EntriesFit l status leaving) := replyEntries_settles _ _ _ _

/-- A flush: the queue is emptied, and each entry answered (R118). -/
theorem State.flush_settles (s : State) (l : LineId) (status : Status) :
    Settles (s.updLine l fun x => { x with demandQueue := [] }) (s.flush l status)
      ((s.line l).demandQueue.map fun e => demandReply l e.tag e.node e.operation status [])
      ((s.line l).demandQueue.map DemandEntry.reserved).sum (EntriesFit l status (s.line l).demandQueue) :=
  replyEntries_settles _ _ _ _

/-- The end of a scan job: the job is gone, and its reply is queued (R129, R130). -/
theorem State.endScan_settles (s : State) (l : LineId) (status : Status) :
    Settles (s.updLine l fun x => { x with scan := none }) (s.endScan l status)
      ((s.line l).scan.map fun j => j.reply l status).toList (if (s.line l).scan.isSome then 57 else 0)
      (∀ j, (s.line l).scan = some j → (Message.reply (j.reply l status)).length ≤ 57) := by
  unfold State.endScan
  split
  · rename_i h
    have : (s.updLine l fun x => { x with scan := none }) = s := by
      have hx : ({ s.line l with scan := none } : Line) = s.line l := by rw [← h]
      rw [State.updLine, hx, State.setLine_line]
    rw [this]
    exact (by simpa [h] using (Settles.refl s).imp fun _ => trivial)
  · rename_i j h
    have := ((s.updLine l fun x => { x with scan := none }).dropTag_settles j.tag).trans
      (State.queueReply_settles _ Config.scanReservation (j.reply l status))
    simpa [h, Config.scanReservation] using this.imp (q := ∀ k, some j = some k → (Message.reply (k.reply l status)).length ≤ 57)
      fun g => ⟨trivial, g j rfl⟩

/-! ## The end of SENDING -/

/-- What the test for the end of SENDING can do: nothing while a stop bit or an echo is outstanding; else the end of a broadcast, the
end of an attempt whose timeout has passed, or the change to WAITING (R30, R57). -/
theorem State.sendingEnds_cases (s : State) (l : LineId) :
    s.sendingEnds l = s ∨
      ∃ t, (s.line l).transaction = some t ∧ (s.line l).sent = (s.line l).frame.length ∧
        (s.line l).echoed = (s.line l).frame.length ∧
        (t.kind.awaitsResponse = false ∧ s.sendingEnds l = s.endAttempt l (.ok []) .settle ∨
          t.kind.awaitsResponse = true ∧ (s.line l).elapsed = true ∧ s.sendingEnds l = s.endAttempt l .timeout .guardTime ∨
          t.kind.awaitsResponse = true ∧ (s.line l).elapsed = false ∧ s.sendingEnds l = s.updLine l fun x =>
            { x with state := .waiting, frame := [], sent := 0, echoed := 0, timer := .running }) := by
  unfold State.sendingEnds
  by_cases h : (s.line l).sent = (s.line l).frame.length ∧ (s.line l).echoed = (s.line l).frame.length
  · rw [if_pos h]
    cases ht : (s.line l).transaction with
    | none => exact .inl rfl
    | some t =>
      refine .inr ⟨t, rfl, h.1, h.2, ?_⟩
      cases hk : t.kind.awaitsResponse <;> cases he : (s.line l).elapsed <;> simp [hk]
  · rw [if_neg h]; exact .inl rfl

end Sys2Proof.Machine
end

