-- ==== Sys2Proof/Laws/Requests.lean ====
section
/-! SUPPORT. What taking a request can do (R154): a ready request is handed to its owner, and nothing else happens. -/

namespace Sys2Proof.Machine

/-- A ready request of the row's kind is taken, and its owner's rule runs. -/
theorem State.take_of_ready {s : State} {k : Option RequestKind} {id : SlotId} {rq : Request} (h : s.ready k id rq)
    (owner : Request → State → State) : s.take k owner = owner rq (s.accept id rq) := by
  obtain ⟨h1, h2, h3, h4⟩ := h
  simp [State.take, h1, h2, h3, h4]

/-- A row either takes a ready request or changes nothing. -/
theorem State.take_cases (s : State) (k : Option RequestKind) (owner : Request → State → State) :
    s.take k owner = s ∨ ∃ id rq, s.ready k id rq ∧ s.take k owner = owner rq (s.accept id rq) := by
  by_cases h : ∃ id rq, s.ready k id rq
  · obtain ⟨id, rq, h⟩ := h
    exact .inr ⟨id, rq, h, State.take_of_ready h owner⟩
  · left
    unfold State.take
    split
    · rename_i id rq h1 h2
      rw [if_neg fun hk => h ⟨id, rq, h1, h2, hk.1, hk.2⟩]
    · rfl

/-- An event of a part out of reset is its own function; during a reset nothing happens. -/
theorem State.awake_of_none {s : State} (h : s.resetting = none) (f : State → State) : s.awake f = f s := by
  simp [State.awake, h]

theorem State.awake_cases (s : State) (f : State → State) :
    s.awake f = s ∨ s.resetting = none ∧ s.awake f = f s := by
  unfold State.awake
  split
  · exact .inr ⟨by assumption, rfl⟩
  · exact .inl rfl

/-- The kind byte of a known request is its kind's code. -/
theorem kind_of_requestKindOf {b : Byte} {k : RequestKind} (h : requestKindOf b = some k) : b = k.code := by
  unfold requestKindOf at h
  split at h <;> simp only [Option.some.injEq, reduceCtorEq] at h <;> subst h <;>
    exact BitVec.eq_of_toNat_eq ‹_›

/-- The reservation of a request, by its kind. -/
theorem reservation_of_kind {rq : Request} {k : RequestKind} (h : requestKindOf rq.kind = some k) :
    rq.reservation = match (generalizing := false) k with
      | .status => 23
      | .reset => 6
      | .lineInfo => 27
      | .nodeInfo => 32
      | .readSnapshot => 61
      | .demand => demandReservation rq.body
      | .broadcast => broadcastReservation rq.body
      | .scanStart => 57
      | .storeSave => 10
      | .storeErase => 6
      | _ => 7 := by
  unfold Request.reservation
  rw [h]
  cases k <;> rfl

/-- A BROADCAST whose body is good reserves 7 bytes. -/
theorem broadcastReservation_of_body {body : List Byte} {r : LineId × Operation} (h : broadcastBody body = some r) :
    broadcastReservation body = 7 := by
  unfold broadcastBody at h
  split at h
  · rename_i l sh sl count data
    split at h
    · rename_i hc
      simp only [Bool.and_eq_true] at hc
      simp [broadcastReservation, hc.1]
    · cases h
  · cases h

/-- The reservation of a request of an unknown kind. -/
theorem reservation_of_unknown {rq : Request} (h : requestKindOf rq.kind = none) : rq.reservation = 7 := by
  unfold Request.reservation
  rw [h]

/-- The length of a reply. -/
@[simp] theorem Message.length_reply (r : Reply) : (Message.reply r).length = 6 + r.data.length := by
  simp [Message.length, Message.body]; omega

/-- A reply that fills its reservation is appended, and nothing else happens but the release of the reservation. -/
theorem State.queueReply_exact (s : State) {reservation : Nat} {r : Reply} (h : 6 + r.data.length = reservation) :
    s.queueReply reservation r = { s with reserved := s.reserved - reservation, outbound := s.outbound ++ [.reply r] } := by
  simp [State.queueReply, h]

/-- An immediate reply that fills the reservation of a request just taken. -/
theorem State.accept_answer_exact (s : State) (id : SlotId) (rq : Request) (status : Status) {data : List Byte}
    (h : 6 + data.length = rq.reservation) :
    (s.accept id rq).answer rq status data =
      { s.taken id with outbound := s.outbound ++
          [.reply { kind := rq.kind + 0x80, tag := rq.tag, status := status, data := data }] } := by
  unfold State.answer
  rw [State.queueReply_exact _ (by simpa using h)]
  cases id <;> simp [State.accept, State.taken, State.setSlot]

@[simp] theorem halfBytes_length (v : Half) : (halfBytes v).length = 2 := rfl
@[simp] theorem wordBytes_length (v : Word) : (wordBytes v).length = 4 := rfl

end Sys2Proof.Machine
end

