-- ==== Sys2Proof/Laws/Store.lean ====
section
/-! SUPPORT. The fields of the state as a phase of a store job begins, and what an event of the store can do: it reaches a job in
its own phase, or nothing. -/

namespace Sys2Proof.Machine

@[simp] theorem State.beginPhase_storePhases (s : State) : s.beginPhase.storePhases = s.storePhases + 1 := rfl
@[simp] theorem State.beginPhase_strap (s : State) : s.beginPhase.strap = s.strap := rfl
@[simp] theorem State.beginPhase_slot0 (s : State) : s.beginPhase.slot0 = s.slot0 := rfl
@[simp] theorem State.beginPhase_slot1 (s : State) : s.beginPhase.slot1 = s.slot1 := rfl
@[simp] theorem State.beginPhase_slotOrder (s : State) : s.beginPhase.slotOrder = s.slotOrder := rfl
@[simp] theorem State.beginPhase_link (s : State) : s.beginPhase.link = s.link := rfl
@[simp] theorem State.beginPhase_linkAck (s : State) : s.beginPhase.linkAck = s.linkAck := rfl
@[simp] theorem State.beginPhase_linkByte (s : State) : s.beginPhase.linkByte = s.linkByte := rfl
@[simp] theorem State.beginPhase_outbound (s : State) : s.beginPhase.outbound = s.outbound := rfl
@[simp] theorem State.beginPhase_reserved (s : State) : s.beginPhase.reserved = s.reserved := rfl
@[simp] theorem State.beginPhase_tags (s : State) : s.beginPhase.tags = s.tags := rfl
@[simp] theorem State.beginPhase_nodes (s : State) : s.beginPhase.nodes = s.nodes := rfl
@[simp] theorem State.beginPhase_snapshots (s : State) : s.beginPhase.snapshots = s.snapshots := rfl
@[simp] theorem State.beginPhase_notices (s : State) : s.beginPhase.notices = s.notices := rfl
@[simp] theorem State.beginPhase_linkErrors (s : State) : s.beginPhase.linkErrors = s.linkErrors := rfl
@[simp] theorem State.beginPhase_lineA (s : State) : s.beginPhase.lineA = s.lineA := rfl
@[simp] theorem State.beginPhase_lineB (s : State) : s.beginPhase.lineB = s.lineB := rfl
@[simp] theorem State.beginPhase_partTime (s : State) : s.beginPhase.partTime = s.partTime := rfl
@[simp] theorem State.beginPhase_storeSlot0 (s : State) : s.beginPhase.storeSlot0 = s.storeSlot0 := rfl
@[simp] theorem State.beginPhase_storeSlot1 (s : State) : s.beginPhase.storeSlot1 = s.storeSlot1 := rfl
@[simp] theorem State.beginPhase_storeJob (s : State) : s.beginPhase.storeJob = s.storeJob := rfl
@[simp] theorem State.beginPhase_configChanged (s : State) : s.beginPhase.configChanged = s.configChanged := rfl
@[simp] theorem State.beginPhase_changedAfterCapture (s : State) : s.beginPhase.changedAfterCapture = s.changedAfterCapture := rfl
@[simp] theorem State.beginPhase_generation (s : State) : s.beginPhase.generation = s.generation := rfl
@[simp] theorem State.beginPhase_resetting (s : State) : s.beginPhase.resetting = s.resetting := rfl
@[simp] theorem State.beginPhase_pending (s : State) : s.beginPhase.pending = s.pending := rfl

/-- An event of a SAVE's phases reaches a SAVE job in one of them, if it is of the phase now running, and otherwise nothing. -/
theorem State.inPhase_cases (s : State) (number : Nat) (phases : List SavePhase) (f : Byte → Image → SlotId → Word → State) :
    s.inPhase number phases f = s ∨
      ∃ tag p image target generation, s.storeJob = some (.save tag p image target generation) ∧ number = s.storePhases ∧
        p ∈ phases ∧ s.inPhase number phases f = f tag image target generation := by
  unfold State.inPhase
  split
  · rename_i hj
    split
    · rename_i h
      exact .inr ⟨_, _, _, _, _, hj, h.1, h.2, rfl⟩
    · exact .inl rfl
  · exact .inl rfl

/-- An event of an invalidation reaches an ERASE job, if it is of the phase now running, and otherwise nothing. -/
theorem State.inErase_cases (s : State) (number : Nat) (f : Byte → SlotId → List SlotId → Bool → State) :
    s.inErase number f = s ∨
      ∃ tag slot rest held, s.storeJob = some (.erase tag slot rest held) ∧ number = s.storePhases ∧
        s.inErase number f = f tag slot rest held := by
  unfold State.inErase
  split
  · rename_i hj
    split
    · rename_i h
      exact .inr ⟨_, _, _, _, hj, h, rfl⟩
    · exact .inl rfl
  · exact .inl rfl

end Sys2Proof.Machine
end

