-- ==== Sys2Proof/WellFormed.lean ====
section
/-! DEFINITION. Which commands name something that exists: an index is 0..31 (spec 01, R1); every other operand is in range by its type. -/

namespace Sys2Proof

/-- The part has 32 node entries, 0..31 (R1). -/
def indexInRange (i : Nat) : Bool := i < 32

/-- A command is well formed when every index in it names one of the 32 entries. -/
def WellFormed : Instr → Bool
  | .pollTimerExpiry i => indexInRange i
  | .recoveryTimerExpiry i => indexInRange i
  | .dueTimeAdvance i => indexInRange i
  | .snapshotAgeOut i => indexInRange i
  | .status | .resetRequest | .lineSet | .lineEnable | .lineDisable | .lineInfo | .nodeAdd | .nodeSet | .nodeRemove => true
  | .nodeEnable | .nodeDisable | .nodeInfo | .readSnapshot | .demand | .broadcast | .cancel | .scanStart | .scanAbort => true
  | .storeSave | .storeErase | .unknownKind => true
  | .writeTransactionStart _ | .writeTransactionEnd | .readTransactionStart _ | .readTransactionEnd => true
  | .stallTimerExpiry | .powerUp | .rstPinLow | .resetComplete _ _ => true
  | .responseTimerExpiry _ | .frameGapExpiry _ | .echoDeadlineExpiry _ | .stuckSpaceExpiry _ | .faultRecovery _ => true
  | .guardEnd _ | .fieldCharacterReceived _ _ _ _ => true
  | .saveWriteCompletion _ | .saveWriteTimerExpiry _ | .saveVerifyReadBack _ _ | .saveMarkWriteCompletion _ => true
  | .saveVerifyTimerExpiry _ | .eraseInvalidationCompletion _ _ | .eraseTimerExpiry _ => true
  | .partTimeTick | .stopBitSent _ | .receivePinChange _ _ | .writeDataByte _ | .readByteClocked => true

end Sys2Proof
end

