-- ==== Sys2Proof/Tests/Slice0.lean ====
section
/-! SUPPORT. The model's own tests: ill-formed commands refused, frames and one-step results from the spec's worked examples
and tables, and for every statement with hypotheses a state and operands that meet them. -/

namespace Sys2Proof.Tests

-- One theorem at a time: each thread of a parallel elaboration counts against the check's memory limit.
set_option Elab.async false

open Sys2Proof Sys2Proof.Machine

/-! ## Small states -/

/-- A part with one request in slot 0. -/
def asking (kind : Byte) (tag : Byte) (body : List Byte) (s : State) : State :=
  { s with slot0 := .full (Request.frame ⟨kind, tag, body⟩), slotOrder := [.s0] }

/-- The node of the worked sequence of chapter 1: address 17 on Line A. -/
def config : NodeConfig :=
  { address := 17, line := .a, descriptor := some { start := 0, count := 4 }, period := 1000, timeout := 20, retries := 1
    limit := 3, notify := true }

/-- The body of a NODE ADD of that node. -/
def configBody : List Byte := [17, 0, 7, 0, 0, 4, 0x03, 0xE8, 20, 1, 3]

/-- A part whose index 0 holds this node, with this Line A. -/
def holding (n : Node) (x : Line) : State :=
  { State.reset with
    lineA := x
    nodes := State.reset.nodes.set 0 (some n)
    snapshots := State.reset.snapshots.set 0 (some {}) }

/-- An enabled line in this state. -/
def up (state : LineState) : Line := { enabled := true, state := state }

/-- The node of the worked sequence in this state and with this mark. -/
def node (state : NodeState) (mark : TransactionMark) : Node := { config := config, state := state, mark := mark }

/-- A transaction of this kind to address 17, in its first attempt of two. -/
def flight (kind : TransactionKind) (op : Operation) : Transaction :=
  { kind := kind, target := 17, operation := op, sequence := 0, allowed := 2, made := 1, timeout := some 20, last := none }

/-- The poll of that node. -/
def poll : Transaction := flight (.poll 0 0) (.read 0 4)

/-- A line in this state with this transaction. -/
def flying (state : LineState) (t : Transaction) : Line := { up state with transaction := some t }

/-- The poll of index 0 in flight on Line A, its line in this state. -/
def polling (state : LineState) : State := holding (node .online .attached) (flying state poll)

/-- The state after a command, or `State.reset` if it gave none. -/
def after (c : Instr) (s : State) : State :=
  match exec c s with
  | .next t => t
  | .fault _ | .refused _ => State.reset

/-- The messages that a command adds to the READY notice. -/
def said (c : Instr) (s : State) : List Message := (after c s).outbound.drop 1

/-- A reply. -/
def reply (kind tag : Byte) (status : Status) (data : List Byte) : Message := .reply ⟨kind, tag, status, data⟩

/-! ## Ill-formed commands (R1: an index is 0..31) -/

theorem test_wf_pollTimerExpiry : WellFormed (.pollTimerExpiry 32) = false ∧ WellFormed (.pollTimerExpiry 31) = true := by
  decide
theorem test_wf_recoveryTimerExpiry :
    WellFormed (.recoveryTimerExpiry 32) = false ∧ WellFormed (.recoveryTimerExpiry 31) = true := by decide
theorem test_wf_dueTimeAdvance : WellFormed (.dueTimeAdvance 32) = false ∧ WellFormed (.dueTimeAdvance 31) = true := by decide
theorem test_wf_snapshotAgeOut : WellFormed (.snapshotAgeOut 32) = false ∧ WellFormed (.snapshotAgeOut 31) = true := by decide

/-! ## Frames (spec 10, CRC CHECK VALUES and the worked example) -/

theorem test_crc_check_value : crc [0x31, 0x32, 0x33, 0x34, 0x35, 0x36, 0x37, 0x38, 0x39] = 0x29B1 := by decide +kernel
theorem test_status_frame : Request.frame ⟨0x01, 0x00, []⟩ = [0x05, 0x01, 0x00, 0x14, 0x5D] := by decide +kernel
theorem test_demand_reservation : Request.reservation ⟨0x40, 0x33, [4, 2, 0x00, 0x64, 2]⟩ = 12 := by decide
theorem test_first_attempt_frame :
    (Transaction.frame { flight (.demand 4 0x33 12) (.read 100 2) with target := 9, sequence := 15 }).take 7 =
      [9, 0x02, 15, 3, 0x00, 0x64, 2] := by decide +kernel
theorem test_second_attempt_frame :
    (Transaction.frame { flight (.demand 4 0x33 12) (.read 100 2) with target := 9, sequence := 15, made := 2 }).take 7 =
      [9, 0x42, 15, 3, 0x00, 0x64, 2] := by decide +kernel
/-- R155: a count out of range reserves the 6 bytes of BAD-BODY. -/
theorem test_broadcast_reservation :
    Request.reservation ⟨0x41, 5, [0, 0, 0, 22]⟩ = 7 ∧ Request.reservation ⟨0x41, 5, [0, 0, 0, 23]⟩ = 6 ∧
      Request.reservation ⟨0x41, 5, [0, 0, 0, 0]⟩ = 6 := by decide
/-- R49: start bit, data least significant bit first, mark bit, stop bit. -/
theorem test_character_bits :
    characterBits 0x11 true = [false, true, false, false, false, true, false, false, false, true, true] := by decide
theorem test_node_add_body : nodeBody configBody = some (config, false) := by decide
/-- R7, R109, R124, R162: index 32, a READ of 25 items, a first address above the last, and clear flag 2. -/
theorem test_bodies_out_of_range :
    indexBody [32] = none ∧ demandBody [0, 2, 0, 0, 25] = none ∧ scanStartBody [0, 9, 8, 5] = none ∧ lineInfoBody [0, 2] = none := by
  decide
/-- R165: the bytes of a NODE STATE notice before its CRC; R3: a counter stays at 65535. -/
theorem test_notice_bytes :
    (Message.notice (.nodeState 4 17 .a .offline)).bytes.take 7 = [9, 0xF1, 0, 4, 17, 0, 3] ∧ countUp 65535 = 65535 ∧
      countUp 65534 = 65535 := by decide +kernel

/-! ## One step of each row -/

/-- R159: the reply is 23 bytes, LEN 0x17, KIND 0x81, TAG 0, status 0; free bytes are 2048 - 11 - 23. -/
theorem test_status :
    ((said .status (asking 0x01 0 [] State.reset)).map fun m => m.bytes.take 15) =
      [[0x17, 0x81, 0, 0, 0, 0, 0, 0, 0, 0, 0, 0x07, 0xDE, 0, 23]] := by decide +kernel
/-- R160: no reply; the cause is REQUEST. -/
theorem test_reset_request :
    let t := after .resetRequest (asking 0x02 5 [] State.reset)
    t.resetting = some .request ∧ t.outbound.length = 1 := by decide +kernel
/-- R67 and R69: four settings replaced, and the change reported. -/
theorem test_line_set :
    let t := after .lineSet (asking 0x10 5 [0, 6, 20, 0x00, 0x64, 100] State.reset)
    t.lineA.settings = ⟨6, 20, 100, 100⟩ ∧ t.configChanged = true := by decide +kernel
/-- R67: any state but OFF gets LINE-ACTIVE. -/
theorem test_line_set_active :
    said .lineSet (asking 0x10 5 [0, 6, 20, 0x00, 0x64, 100] { State.reset with lineA := up .guard }) =
      [reply 0x90 5 .lineActive [0]] := by decide +kernel
/-- R66 and R104: LINE STATE stands before the OK. -/
theorem test_line_enable :
    said .lineEnable (asking 0x11 5 [1] State.reset) =
      [.notice (.lineState .b .idle .none), reply 0x91 5 .ok [1]] := by decide +kernel
/-- R65 and R80: a poll in flight returns to the head of the due list with its due time. -/
theorem test_line_disable :
    let t := after .lineDisable (asking 0x12 5 [0] (polling .waiting))
    t.lineA.state = .off ∧ t.lineA.dueList = [⟨0, .poll, 0⟩] ∧ (t.node 0).map Node.mark = some .none := by decide +kernel
/-- R70: the reply shows the counters before clearing. -/
theorem test_line_info :
    let s := asking 0x13 5 [0, 1] { State.reset with lineA := { counters := { faults := 0x0102 } } }
    (after .lineInfo s).lineA.counters = {} ∧
      said .lineInfo s = [reply 0x93 5 .ok [0, 1, 2, 0x07, 0xD0, 10, 0, 0, 0, 0, 0, 0, 0, 0, 0, 0, 0, 1, 2, 0, 0]] := by
  decide +kernel
/-- The worked sequence of chapter 1: index 0, and the poll starts with sequence number 0. -/
theorem test_node_add :
    let t := after .nodeAdd (asking 0x20 5 configBody { State.reset with lineA := up .idle })
    said .nodeAdd (asking 0x20 5 configBody { State.reset with lineA := up .idle }) = [reply 0xA0 5 .ok [0]] ∧
      t.lineA.transaction = some poll ∧ (t.node 0).map Node.nextSequence = some 1 := by decide +kernel
/-- R10: an entry not DISABLED gets NODE-ACTIVE. -/
theorem test_node_set_active :
    said .nodeSet (asking 0x21 5 (0 :: configBody) (polling .waiting)) = [reply 0xA1 5 .nodeActive [0]] := by decide +kernel
/-- R13 and R14: REMOVING with its mark DETACHED, and the snapshot discarded. -/
theorem test_node_remove :
    let t := after .nodeRemove (asking 0x22 5 [0] (polling .waiting))
    t.node 0 = some (node .removing .detached) ∧ t.snapshot 0 = none := by decide +kernel
/-- R14: without a transaction the index is free at once. -/
theorem test_node_remove_at_once :
    (after .nodeRemove (asking 0x22 5 [0] (holding (node .online .none) (up .idle)))).node 0 = none := by decide +kernel
/-- R11: DISABLED becomes NEW, and NODE STATE stands before the OK. -/
theorem test_node_enable :
    said .nodeEnable (asking 0x23 5 [0] (holding (node .disabled .none) (up .off))) =
      [.notice (.nodeState 0 17 .a .new), reply 0xA3 5 .ok [0]] := by decide +kernel
/-- R12: the failure count returns to 0 and the mark becomes DETACHED. -/
theorem test_node_disable :
    (after .nodeDisable (asking 0x24 5 [0] (holding { node .suspect .attached with failures := 2 } (flying .waiting poll)))).node 0 =
      some (node .disabled .detached) := by decide +kernel
/-- R15 and R164: node flags 5, and the fields in their order. -/
theorem test_node_info :
    said .nodeInfo (asking 0x25 5 [0, 0] (polling .waiting)) =
      [reply 0xA5 5 .ok [0, 17, 0, 5, 0, 0, 4, 0x03, 0xE8, 20, 1, 3, 1, 0, 0, 0, 0, 0, 0, 0, 0, 0, 0, 0, 0, 0]] := by
  decide +kernel
/-- R94: 4 periods of age are FRESH, 1 ms more is STALE. -/
theorem test_read_snapshot_fresh :
    let s := fun now : Word => { polling .waiting with
      partTime := now
      snapshots := State.reset.snapshots.set 0 (some { update := 3, record := some ⟨[9, 8], 0, false⟩ }) }
    said .readSnapshot (asking 0x30 5 [0] (s 4000)) = [reply 0xB0 5 .ok [0, 1, 0x0F, 0xA0, 0, 3, 2, 9, 8]] ∧
      said .readSnapshot (asking 0x30 5 [0] (s 4001)) = [reply 0xB0 5 .ok [0, 2, 0x0F, 0xA1, 0, 3, 2, 9, 8]] := by
  decide +kernel
/-- R110 and R81: the accepted demand of an IDLE line starts at once; no reply; 10 bytes reserved. -/
theorem test_demand :
    let t := after .demand (asking 0x40 0x33 [0, 1] (holding (node .online .none) (up .idle)))
    t.lineA.transaction = some (flight (.demand 0 0x33 10) .ping) ∧ t.reserved = 10 ∧ t.tags = [0x33] ∧
      t.outbound.length = 1 := by decide +kernel
/-- R22: OFFLINE gets NODE-DOWN. -/
theorem test_demand_node_down :
    said .demand (asking 0x40 0x33 [0, 1] (holding (node .offline .none) (up .idle))) =
      [reply 0xC0 0x33 .nodeDown [0, 1]] := by decide +kernel
/-- R115 and R27: address 0, the line sequence number, one attempt. -/
theorem test_broadcast :
    let t := after .broadcast (asking 0x41 0x52 [0, 0, 5, 1, 0xAB, 0xCD] { State.reset with lineA := { up .idle with sequence := 255 } })
    t.lineA.sequence = 0 ∧
      t.lineA.frame.take 9 = [0, 0x03, 255, 5, 0, 5, 1, 0xAB, 0xCD] := by decide +kernel
/-- R119: CANCELLED stands before the OK. -/
theorem test_cancel :
    said .cancel (asking 0x42 0x90 [0x77] { State.reset with
      lineB := { up .waiting with demandQueue := [⟨0x77, none, .write 0 1 [0, 0], 7⟩] }, reserved := 7, tags := [0x77] }) =
      [reply 0xC1 0x77 .cancelled [1], reply 0xC2 0x90 .ok [0x77]] := by decide +kernel
/-- R119: a tag in flight gets TOO-LATE. -/
theorem test_cancel_too_late :
    said .cancel (asking 0x42 0x90 [0x33] { State.reset with lineA := flying .waiting (flight (.demand 0 0x33 10) .ping) }) =
      [reply 0xC2 0x90 .tooLate [0x33]] := by decide +kernel
/-- R126: the address of a node on the line is skipped. -/
theorem test_scan_start :
    (after .scanStart (asking 0x50 0x80 [0, 17, 20, 5] (holding (node .offline .none) (up .idle)))).lineA.transaction =
      some { flight .scanProbe .ping with target := 18, allowed := 1, timeout := some 5 } := by decide +kernel
/-- R131: the job's ABORTED stands before the OK. -/
theorem test_scan_abort :
    said .scanAbort (asking 0x51 5 [0] { State.reset with
      lineA := { up .guard with scan := some ⟨0x80, 1, 9, 5, 4, none, 3, [⟨2, 0x0102⟩], false⟩ }, reserved := 57, tags := [0x80] }) =
      [reply 0xD0 0x80 .aborted [0, 3, 1, 2, 1, 2], reply 0xD1 5 .ok [0]] := by decide +kernel
/-- A slot that holds an empty image. -/
def saved (generation : Word) : StoreSlot := ⟨true, true, generation, Image.empty⟩
/-- The worked sequence of chapter 8: generations 7 and 6 give target slot 1 and generation 8. -/
theorem test_store_save :
    let t := after .storeSave (asking 0x60 0xA0 [] { State.reset with storeSlot0 := saved 7, storeSlot1 := saved 6 })
    t.storeJob = some (.save 0xA0 .write Image.empty .s1 8) ∧ t.storeSlot0.valid = true ∧ t.storeSlot1.valid = false := by
  decide +kernel
/-- The second worked sequence of chapter 8: slot 1, the older, is invalidated first; the current generation stays 12. -/
theorem test_store_erase :
    let t := after .storeErase (asking 0x61 0xB0 [] { State.reset with
      storeSlot0 := saved 12, storeSlot1 := saved 11, generation := 12 })
    t.storeJob = some (.erase 0xB0 .s1 [.s0] false) ∧ t.generation = 12 ∧ t.storeSlot1.valid = false := by decide +kernel
/-- R156: reply kind 0xFF, with the kind received. -/
theorem test_unknown_kind :
    said .unknownKind (asking 0x7F 5 [1, 2, 3] State.reset) = [reply 0xFF 5 .unknownKind [0x7F]] := by decide +kernel
/-- R147: the address is acknowledged while a slot is FREE. -/
theorem test_write_start :
    (after (.writeTransactionStart 0x3A) State.reset).linkAck = true ∧
      (after (.writeTransactionStart 0x3A) { State.reset with slot0 := .full [], slot1 := .full [] }).linkAck = false := by
  decide +kernel
/-- R147: the 64th byte is not acknowledged and sets the over-length mark. -/
theorem test_write_data_byte :
    let t := after (.writeDataByte 1) { State.reset with
      slot0 := .filling (List.replicate 63 0), link := .write .s0 false }
    t.linkAck = false ∧ t.link = .write .s0 true := by decide +kernel
/-- R148: the STATUS frame of chapter 10 is accepted; one wrong bit is rejected. -/
theorem test_write_end :
    let s := fun bytes : List Byte => { State.reset with slot0 := .filling bytes, link := .write .s0 false }
    (after .writeTransactionEnd (s [5, 1, 0, 0x14, 0x5D])).slotOrder = [.s0] ∧
      said .writeTransactionEnd (s [5, 1, 1, 0x14, 0x5D]) = [.notice (.linkError 1)] := by decide +kernel
/-- R149: the head message is fixed. -/
theorem test_read_start :
    (after (.readTransactionStart 0x3A) State.reset).link = .read (some (.notice (.ready .power 0 0))) 0 := by decide +kernel
/-- R149: LEN is the first byte; after the message, and on an empty queue, 0xFF and 0x00. -/
theorem test_read_byte :
    let byte := fun m n => (after .readByteClocked { State.reset with link := .read m n }).linkByte
    let ready := some (Message.notice (.ready .power 0 0))
    byte ready 0 = 11 ∧ byte ready 11 = 0xFF ∧ byte none 0 = 0x00 ∧ byte none 1 = 0xFF := by decide +kernel
/-- R150: removed after its 11th byte, not after its 10th. -/
theorem test_read_end :
    let left := fun n => (after .readTransactionEnd { State.reset with
      link := .read (some (.notice (.ready .power 0 0))) n }).outbound.length
    left 10 = 1 ∧ left 11 = 0 := by decide +kernel
/-- R151: the stalled write is counted, and its slot is FREE. -/
theorem test_stall :
    let s := { State.reset with slot0 := .filling [], link := .write .s0 false }
    said .stallTimerExpiry s = [.notice (.linkError 1)] ∧ (after .stallTimerExpiry s).slot0 = .free := by decide +kernel
/-- R161: ATTN# is released while the reset is in progress. -/
theorem test_power_up :
    (after .powerUp State.reset).attention = false ∧ (after .powerUp State.reset).resetting = some .power := by decide +kernel
/-- R161: RST# low within a REQUEST reset makes the cause PIN, within a POWER reset it does not. -/
theorem test_rst_pin_low :
    (after .rstPinLow { State.reset with resetting := some .request }).resetting = some .pin ∧
      (after .rstPinLow { State.reset with resetting := some .power }).resetting = some .power := by decide +kernel
/-- R145: the strap value is ADR1 * 2 + ADR0; R102: READY carries cause, generation and strap. -/
theorem test_reset_complete :
    (after (.resetComplete true false) { State.reset with resetting := some .pin, storeSlot0 := saved 7, storeSlot1 := saved 6 }).outbound =
      [.notice (.ready .pin 7 2)] := by decide +kernel
/-- R74 and R83: the timer that is due starts the poll of an IDLE line. -/
theorem test_poll_timer_expiry :
    (after (.pollTimerExpiry 0) { holding (node .online .none) ((up .idle).setPollTimer 0 (some 70)) with
      partTime := 70 }).lineA.transaction = some { poll with kind := .poll 0 70 } := by decide +kernel
/-- R26: a recovery probe is one PING. -/
theorem test_recovery_timer_expiry :
    (after (.recoveryTimerExpiry 0) { holding (node .offline .none) ((up .idle).setRecoveryTimer 0 (some 70)) with
      partTime := 70 }).lineA.transaction = some { flight (.recoveryProbe 0) .ping with allowed := 1 } := by decide +kernel
/-- R78: it stays exactly 60000 ms behind part time, as does a poll that R80 put back further behind. -/
theorem test_due_time_advance :
    let due := fun now => (after (.dueTimeAdvance 0) { holding (node .online .none) { dueList := [⟨0, .poll, 5⟩] } with
      partTime := now }).lineA.dueList
    due 60005 = [⟨0, .poll, 5⟩] ∧ due 60006 = [⟨0, .poll, 6⟩] ∧ due 60029 = [⟨0, .poll, 29⟩] := by decide +kernel
/-- R93: 240000 ms of age. -/
theorem test_snapshot_age_out :
    ((after (.snapshotAgeOut 0) { polling .waiting with
      partTime := 240005
      snapshots := State.reset.snapshots.set 0 (some { record := some ⟨[9, 8], 5, false⟩ }) }).snapshot 0) =
      some { record := some ⟨[9, 8], 5, true⟩ } := by decide +kernel
/-- R31 and R39: the first attempt of two ends TIMEOUT, which is counted, and a retry is to follow. -/
theorem test_response_timer_expiry :
    let t := after (.responseTimerExpiry .a) (holding (node .online .attached) { flying .waiting poll with timer := .running })
    t.lineA.transaction = some { poll with last := some .timeout } ∧ t.lineA.state = .guard ∧
      (t.node 0).map (fun n => n.counters.timeouts) = some 1 := by decide +kernel
/-- R34: a gap in the candidate response ends the attempt CORRUPT. -/
theorem test_frame_gap_expiry :
    ((after (.frameGapExpiry .a) (holding (node .online .attached)
      { flying .receiving poll with openFrame := some [17] })).node 0).map (fun n => n.counters.corrupt) = some 1 := by
  decide +kernel
/-- R61: the fourth consecutive collision enters FAULT with cause COLLISIONS. -/
theorem test_echo_deadline_expiry :
    let t := after (.echoDeadlineExpiry .a) (holding (node .online .attached)
      { flying .sending poll with collisionRun := 3, frame := poll.frame, sent := 1 })
    t.lineA.state = .fault ∧ t.lineA.faultCause = .collisions ∧ t.lineA.counters = { collisions := 1, faults := 1 } ∧
      t.lineA.dueList = [⟨0, .poll, 0⟩] := by decide +kernel
/-- R60 and R62: LINE STATE reports FAULT and STUCK. -/
theorem test_stuck_space_expiry :
    said (.stuckSpaceExpiry .b) { State.reset with lineB := { up .idle with pinMark := false } } =
      [.notice (.lineState .b .fault .stuck)] := by decide +kernel
/-- R64: FAULT ends in IDLE with the fault cause kept. -/
theorem test_fault_recovery :
    said (.faultRecovery .b) { State.reset with lineB := { up .fault with faultCause := .collisions } } =
      [.notice (.lineState .b .idle .collisions)] := by decide +kernel
/-- R40 and R28: attempt 2 carries the repeat flag. -/
theorem test_guard_end :
    (after (.guardEnd .a) (polling .guard)).lineA.frame.take 2 = [17, 0x42] := by decide +kernel
/-- R58 and R60: a pin held at space holds the guard. -/
theorem test_guard_held :
    (after (.guardEnd .a) { State.reset with lineA := { up .guard with pinMark := false } }).lineA.state = .guard := by
  decide +kernel
/-- R35 and R17: the last character of a PING ANSWER ends a demand OK, with the node type in its reply. -/
theorem test_field_character :
    let answer := withCrc [17, 0x81, 0, 2, 0x12, 0x34]
    said (.fieldCharacterReceived .a (answer.getD 7 0) false true) { holding (node .online .attached)
      { flying .receiving (flight (.demand 0 0x33 10) .ping) with openFrame := some (answer.take 7) } with
      reserved := 10, tags := [0x33] } = [reply 0xC0 0x33 .ok [0, 1, 0x12, 0x34]] := by decide +kernel
/-- R52: an echo that differs is a collision. R57: the time spent on the last echo counts against the response timeout. -/
theorem test_field_character_echo :
    (after (.fieldCharacterReceived .a 18 true true) (holding (node .online .attached)
      { flying .sending poll with frame := poll.frame, reception := some (.echo 0) })).lineA.counters = { collisions := 1 } ∧
    (after (.fieldCharacterReceived .a (poll.frame.getD 8 0) false true) (holding (node .online .attached)
      { flying .sending poll with
        frame := poll.frame, sent := 9, echoed := 8, timer := .running, elapsed := true, reception := some (.echo 8)
        })).lineA.transaction = some { poll with last := some .timeout } := by decide +kernel
/-- R31: the last stop bit starts the response timer. -/
theorem test_stop_bit_sent :
    let t := after (.stopBitSent .a) (holding (node .online .attached)
      { flying .sending poll with frame := poll.frame, sent := 8, echoed := 8 })
    t.lineA.sent = 9 ∧ t.lineA.timer = .running ∧ t.lineA.state = .sending := by decide +kernel
/-- R50: a fall to space begins a character. -/
theorem test_receive_pin_change :
    (after (.receivePinChange .a false) { State.reset with lineA := up .idle }).lineA.reception = some .plain := by decide +kernel
/-- A SAVE job of generation 8 in this phase, its target slot 1. -/
def saving (phase : SavePhase) : State :=
  { State.reset with
    storePhases := 1
    storeSlot1 := { saved 8 with mark := false }
    storeJob := some (.save 0xA0 phase Image.empty .s1 8), reserved := 10, tags := [0xA0], configChanged := true }
/-- R138: after the write the slot is still INVALID. -/
theorem test_save_write_completion :
    (after (.saveWriteCompletion 1) (saving .write)).storeJob = some (.save 0xA0 .readBack Image.empty .s1 8) ∧
      (after (.saveWriteCompletion 1) (saving .write)).storeSlot1.valid = false := by decide +kernel
/-- R139 and R164: STORE-FAILED carries the job's generation. -/
theorem test_save_write_timer_expiry :
    said (.saveWriteTimerExpiry 1) (saving .write) = [reply 0xE0 0xA0 .storeFailed [0, 0, 0, 8]] := by decide +kernel
/-- R138: a difference fails the save. -/
theorem test_save_verify_read_back :
    said (.saveVerifyReadBack false 1) (saving .readBack) = [reply 0xE0 0xA0 .storeFailed [0, 0, 0, 8]] ∧
      said (.saveVerifyReadBack true 1) (saving .readBack) = [] := by decide +kernel
/-- R138 and R139: VALID, OK, the current generation 8, the flag clear. -/
theorem test_save_mark_write_completion :
    let t := after (.saveMarkWriteCompletion 1) (saving .markWrite)
    t.storeSlot1.valid = true ∧ t.generation = 8 ∧ t.configChanged = false ∧
      said (.saveMarkWriteCompletion 1) (saving .markWrite) = [reply 0xE0 0xA0 .ok [0, 0, 0, 8]] := by decide +kernel
/-- R138, R142: the completion of a write that timed out finds a new job in WRITE and is ignored; that job's own completion is not. -/
theorem test_late_completion :
    let s := after (.saveWriteTimerExpiry 1) (after .storeSave (asking 0x60 5 [] State.reset))
    let t := after .storeSave (asking 0x60 6 [] s)
    t.storeJob = some (.save 6 .write t.capture .s0 1) ∧ after (.saveWriteCompletion 1) t = t ∧
      (after (.saveWriteCompletion 2) t).storeJob = some (.save 6 .readBack t.capture .s0 1) := by decide +kernel
/-- R138: the timer also covers the mark write. -/
theorem test_save_verify_timer_expiry :
    (after (.saveVerifyTimerExpiry 1) (saving .markWrite)).storeSlot1.valid = false ∧
      (after (.saveVerifyTimerExpiry 1) (saving .markWrite)).storeJob = none := by decide +kernel
/-- An ERASE job on slot 0, which held the current generation. -/
def erasing (rest : List SlotId) : State :=
  { State.reset with
    storePhases := 1
    storeSlot0 := { saved 12 with mark := false }, storeJob := some (.erase 0xB0 .s0 rest true), reserved := 6, tags := [0xB0] }
/-- R140: a mark that reads intact gives the slot and the current generation back. -/
theorem test_erase_invalidation_completion :
    let t := after (.eraseInvalidationCompletion false 1) (erasing [.s1])
    t.storeSlot0.valid = true ∧ t.generation = 12 ∧ t.storeJob = none ∧
      said (.eraseInvalidationCompletion true 1) (erasing []) = [reply 0xE1 0xB0 .ok []] := by decide +kernel
/-- R140: a timer expiry fails the job. -/
theorem test_erase_timer_expiry : said (.eraseTimerExpiry 1) (erasing [.s1]) = [reply 0xE1 0xB0 .storeFailed []] := by decide +kernel
/-- R71: part time wraps to 0. -/
theorem test_part_time_tick : (after .partTimeTick { State.reset with partTime := 4294967295 }).partTime = 0 := by decide +kernel

/-! ## States and operands that meet the hypotheses of the statements, clause by clause -/

/-- The part asks a request of this kind and tag 5, and it is ready to be taken. -/
abbrev Asks (k : Option RequestKind) (kind : Byte) (body : List Byte) (s : State) : Prop :=
  (asking kind 5 body s).ready k .s0 ⟨kind, 5, body⟩

/-- With only index 0 in use, every entry is the one there. -/
theorem holding_node {n m : Node} {x : Line} {j : Index} (h : (holding n x).node j = some m) : j = 0 ∧ m = n := by
  by_cases hj : j = 0
  · subst hj; exact ⟨rfl, (Option.some.inj h).symm⟩
  · exfalso
    have hv : j.val ≠ 0 := fun h0 => hj (Fin.ext h0)
    simp [holding, State.node, State.reset, Vector.get_eq_getElem, Ne.symm hv] at h

theorem reset_node {j : Index} {m : Node} : State.reset.node j ≠ some m := by
  simp [State.node, State.reset, Vector.get_eq_getElem]

/-- The boundary of R154: 23 bytes are needed and 22 are free. Each kind of body that the reservations tell apart (R155). -/
theorem meets_RequestThatDoesNotFitWaits :
    let s := { asking 0x01 5 [] State.reset with reserved := 2015 }
    requestOfRow .status = some (some .status) ∧ requestOfRow .unknownKind = some none ∧ s.resetting = none ∧
      s.oldestRequest = some (.s0, ⟨0x01, 5, []⟩) ∧ s.freeSpace < Request.reservation ⟨0x01, 5, []⟩ ∧
      requestKindOf 0x01 ≠ some .reset ∧ requestKindOf 0x01 ≠ none ∧ State.reset.slotOrder = [] ∧
    (requestKindOf 0xFF = none ∧ requestKindOf 0x61 = some .storeErase ∧ requestKindOf 0x40 = some .demand ∧
      requestKindOf 0x41 = some .broadcast ∧ demandBody [31, 2, 0, 0, 24] = some (31, .read 0 24) ∧
      broadcastBody [1, 0, 0, 1, 7, 7] = some (.b, .write 0 1 [7, 7]) ∧ ([0] : List Byte)[1]? = none ∧
      ([0, 2] : List Byte)[1]? = some 2 ∧ ([0, 2] : List Byte)[4]? = none ∧ 24 < (25 : Byte).toNat ∧ 22 < (23 : Byte).toNat) := by
  decide +kernel

/-- The first and the last unknown kind; and note 3 of R163: 6 bytes with timing-present set and descriptor-present clear. -/
theorem meets_GenericChecksRefuse :
    Asks none 0x00 [] State.reset ∧ Asks none 0xFF [1] State.reset ∧
      requestOfRow .nodeAdd = some (some .nodeAdd) ∧ Asks (some .nodeAdd) 0x20 [17, 0, 2, 0, 0, 4] State.reset ∧
      RequestKind.bodyGood .nodeAdd [17, 0, 2, 0, 0, 4] = false := by decide +kernel

/-- Exactly 23 bytes are free. -/
theorem meets_StatusReports :
    Asks (some .status) 0x01 [] { State.reset with reserved := 2014 } ∧ Asks (some .status) 0x01 [0] State.reset := by
  decide +kernel

theorem meets_ResetRequestStartsReset :
    Asks (some .reset) 0x02 [] State.reset ∧ Asks (some .reset) 0x02 [0] State.reset := by decide +kernel

theorem meets_ResetBegins :
    { State.reset with resetting := some .request }.resetting ≠ some .power ∧ State.reset.resetting ≠ some .power ∧
      { State.reset with resetting := some .power }.resetting = some .power := by decide

/-- An image with Line A enabled and one NEW node on it. -/
def image : Image := { Image.empty with enabledA := true, nodes := [{ index := 31, config := config, disabled := false }] }

/-- Line A is enabled with a node due, or with its node DISABLED; Line B is not enabled; index 0 is not started. -/
theorem meets_ResetCompletes :
    let s := fun x : Image => { State.reset with resetting := some .pin, storeSlot0 := ⟨true, true, 1, x⟩ }
    (s image).resetting = some .pin ∧ (s image).loadedImage.enabledA = true ∧ (s image).loadedImage.enabledB = false ∧
      (s image).loadedImage.dueOn .a = [⟨31, .poll, 0⟩] ∧ (31 : Index) ≠ 0 ∧
      (let y := { image with nodes := [{ index := 31, config := config, disabled := true }] };
      (s y).loadedImage.enabledA = true ∧ (s y).loadedImage.dueOn .a = []) ∧
    (let two := fun g => { s image with storeSlot1 := ⟨true, true, g, image⟩ };
      ((two 2).storeSlot .s0).valid = true ∧ ((two 2).storeSlot .s1).valid = true ∧
        ((two 2).storeSlot .s0).generation.toNat < ((two 2).storeSlot .s1).generation.toNat ∧
        (two 1).storeSlot0.generation = (two 1).storeSlot1.generation) ∧
    ∀ slot, (State.reset.storeSlot slot).valid = false := by
  refine ⟨by decide +kernel, by decide +kernel, by decide +kernel, by decide +kernel, by decide, by decide +kernel, by decide +kernel, ?_⟩
  intro slot
  cases slot <;> decide

theorem meets_LineSetOnlyWhileOff :
    let s := fun state => { State.reset with lineB := up state }
    Asks (some .lineSet) 0x10 [1, 0, 0, 0xEA, 0x60, 1] (s .off) ∧ ((s .off).line .b).state = .off ∧
      Asks (some .lineSet) 0x10 [1, 0, 0, 0xEA, 0x60, 1] (s .fault) ∧ ((s .fault).line .b).state ≠ .off ∧
      lineSetBody [1, 0, 0, 0xEA, 0x60, 1] = some (.b, ⟨0, 0, 60000, 1⟩) := by decide +kernel

theorem meets_LineEnableFromOff :
    Asks (some .lineEnable) 0x11 [0] State.reset ∧ lineBody [0] = some .a ∧ (State.reset.line .a).state = .off ∧
      Asks (some .lineEnable) 0x11 [0] (polling .guard) ∧ ((polling .guard).line .a).state ≠ .off := by decide +kernel

theorem meets_LineDisableTakesLineOff :
    Asks (some .lineDisable) 0x12 [0] (polling .sending) ∧ lineBody [0] = some .a ∧
      ((polling .sending).line .a).state ≠ .off ∧
      (let q := { polling .sending with outbound := [.notice (.lineState .a .idle .none)] };
        Asks (some .lineDisable) 0x12 [0] q ∧ q.noticeQueued (.lineState .a) = true) ∧
      Asks (some .lineDisable) 0x12 [0] State.reset ∧ (State.reset.line .a).state = .off := by decide +kernel

theorem meets_LineInfoReports :
    Asks (some .lineInfo) 0x13 [1, 1] State.reset ∧ lineInfoBody [1, 1] = some (.b, true) ∧
      lineInfoBody [0, 0] = some (.a, false) := by decide +kernel

/-- A part whose 32 entries are all in use, at addresses 1 to 32. -/
def crowded : State :=
  { State.reset with nodes := Vector.ofFn fun i : Fin 32 => some { node .online .none with config := { config with address := byteOf (i + 1) } } }

theorem crowded_address {j : Index} {m : Node} (h : crowded.node j = some m) : m.config.address ≠ 247 := by
  simp [crowded, State.node, Vector.get_eq_getElem] at h
  subst h
  revert j
  decide

theorem meets_NodeAddTakesLowestFreeIndex :
    (Asks (some .nodeAdd) 0x20 configBody (polling .waiting) ∧ nodeBody configBody = some (config, false) ∧
      ∃ j m, (polling .waiting).node j = some m ∧ m.config.line = config.line ∧ m.config.address = config.address) ∧
    (Asks (some .nodeAdd) 0x20 [247, 0, 8] crowded ∧
      (nodeBody [247, 0, 8]).map (fun c => (c.1.address, c.1.line, c.2)) = some (247, .a, true) ∧
      (∀ j, crowded.node j ≠ none) ∧
      ∀ j m, crowded.node j = some m → ¬(m.config.line = .a ∧ m.config.address = 247)) ∧
    (Asks (some .nodeAdd) 0x20 (247 :: configBody.tail) (polling .waiting) ∧
      (nodeBody (247 :: configBody.tail)).map (fun c => (c.1.address, c.1.descriptor.isSome, c.2)) = some (247, true, false) ∧
      (polling .waiting).node 1 = none ∧ (∀ j, j < (1 : Index) → (polling .waiting).node j ≠ none) ∧
      ∀ j m, (polling .waiting).node j = some m → ¬(m.config.line = .a ∧ m.config.address = 247)) ∧
    (nodeBody [247, 0, 8]).map (fun c => (c.1.descriptor, c.2)) = some (none, true) := by
  refine ⟨⟨by decide +kernel, by decide, 0, node .online .attached, by decide +kernel⟩,
    ⟨by decide +kernel, by decide, by decide +kernel, fun j m h g => crowded_address h g.2⟩,
    ⟨by decide +kernel, by decide, by decide +kernel, by decide +kernel, ?_⟩, by decide⟩
  intro j m h g
  rw [(holding_node h).2] at g
  exact absurd g.2 (by decide)

/-- Two entries: index 0 at address 17, and index 1 DISABLED at address 18, with this mark. -/
def pair (mark : TransactionMark) : State :=
  { polling .waiting with nodes := (polling .waiting).nodes.set 1 (some { node .disabled mark with config := { config with address := 18 } }) }

theorem meets_NodeSetReplacesConfiguration :
    nodeSetBody (0 :: configBody) = some (0, config) ∧ nodeSetBody (1 :: configBody) = some (1, config) ∧
    (Asks (some .nodeSet) 0x21 (0 :: configBody) State.reset ∧ State.reset.liveNode 0 = none) ∧
    (Asks (some .nodeSet) 0x21 (0 :: configBody) (polling .waiting) ∧
      (polling .waiting).liveNode 0 = some (node .online .attached)) ∧
    (Asks (some .nodeSet) 0x21 (1 :: configBody) (pair .detached) ∧
      ((pair .detached).liveNode 1).map Node.mark = some .detached) ∧
    (Asks (some .nodeSet) 0x21 (1 :: configBody) (pair .none) ∧
      ((pair .none).liveNode 1).map Node.mark = some .none ∧ ((pair .none).liveNode 1).map Node.state = some .disabled ∧
      ((pair .none).node 0).map (fun n => (n.config.line, n.config.address)) = some (config.line, config.address)) ∧
    (Asks (some .nodeSet) 0x21 (0 :: configBody) (holding (node .disabled .none) (up .off)) ∧
      (holding (node .disabled .none) (up .off)).liveNode 0 = some (node .disabled .none) ∧
      ∀ j m, j ≠ 0 → (holding (node .disabled .none) (up .off)).node j = some m →
        ¬(m.config.line = config.line ∧ m.config.address = config.address)) := by
  refine ⟨by decide, by decide, by decide +kernel, by decide +kernel, by decide +kernel, by decide +kernel,
    by decide +kernel, by decide +kernel, fun j m hj h => absurd (holding_node h).1 hj⟩

/-- A free index, a REMOVING one, a live one without and with a transaction. -/
theorem meets_NodeRemoveFreesOrWaits :
    indexBody [0] = some 0 ∧ indexBody [31] = some 31 ∧
    (Asks (some .nodeRemove) 0x22 [31] State.reset ∧ State.reset.liveNode 31 = none) ∧
    (Asks (some .nodeRemove) 0x22 [0] (holding (node .removing .detached) (up .off)) ∧
      (holding (node .removing .detached) (up .off)).liveNode 0 = none) ∧
    (Asks (some .nodeRemove) 0x22 [0] (holding (node .disabled .none) (up .off)) ∧
      (holding (node .disabled .none) (up .off)).liveNode 0 = some (node .disabled .none)) ∧
    (Asks (some .nodeRemove) 0x22 [0] (polling .waiting) ∧
      (polling .waiting).liveNode 0 = some (node .online .attached)) := by decide +kernel

theorem meets_NodeEnableMakesNew :
    let plain := { node .disabled .none with config := { config with descriptor := none } }
    indexBody [0] = some 0 ∧
    (Asks (some .nodeEnable) 0x23 [0] State.reset ∧ State.reset.liveNode 0 = none) ∧
    (Asks (some .nodeEnable) 0x23 [0] (polling .waiting) ∧
      (polling .waiting).liveNode 0 = some (node .online .attached)) ∧
    (Asks (some .nodeEnable) 0x23 [0] (holding (node .disabled .none) (up .idle)) ∧
      (holding (node .disabled .none) (up .idle)).liveNode 0 = some (node .disabled .none) ∧ config.descriptor.isSome = true) ∧
    (Asks (some .nodeEnable) 0x23 [0] (holding plain (up .idle)) ∧
      (holding plain (up .idle)).liveNode 0 = some plain ∧ plain.config.descriptor = none) := by decide +kernel

theorem meets_NodeDisableWithholdsNode :
    indexBody [0] = some 0 ∧
    (Asks (some .nodeDisable) 0x24 [0] State.reset ∧ State.reset.liveNode 0 = none) ∧
    (Asks (some .nodeDisable) 0x24 [0] (holding (node .disabled .none) (up .off)) ∧
      (holding (node .disabled .none) (up .off)).liveNode 0 = some (node .disabled .none)) ∧
    (Asks (some .nodeDisable) 0x24 [0] (polling .waiting) ∧
      (polling .waiting).liveNode 0 = some (node .online .attached)) ∧
    (let q := { polling .waiting with outbound := [.notice (.nodeState 0 17 .a .online)] };
      Asks (some .nodeDisable) 0x24 [0] q ∧ q.noticeQueued (.nodeState 0) = true) := by decide +kernel

theorem meets_NodeInfoReports :
    nodeInfoBody [0, 1] = some (0, true) ∧
    (Asks (some .nodeInfo) 0x25 [0, 1] State.reset ∧ State.reset.liveNode 0 = none) ∧
    (Asks (some .nodeInfo) 0x25 [0, 1] (polling .waiting) ∧
      (polling .waiting).liveNode 0 = some (node .online .attached)) := by decide +kernel

theorem meets_ReadSnapshotReports :
    let s := { polling .waiting with snapshots := State.reset.snapshots.set 0 (some { update := 1, record := some ⟨[9, 8], 0, true⟩ }) }
    indexBody [0] = some 0 ∧
    (Asks (some .readSnapshot) 0x30 [0] State.reset ∧ State.reset.liveNode 0 = none) ∧
    (Asks (some .readSnapshot) 0x30 [0] (polling .waiting) ∧ (polling .waiting).liveNode 0 = some (node .online .attached) ∧
      (polling .waiting).snapshot 0 = some { update := 0, record := none }) ∧
    (Asks (some .readSnapshot) 0x30 [0] s ∧ s.liveNode 0 = some (node .online .attached) ∧
      s.snapshot 0 = some { update := 1, record := some ⟨[9, 8], 0, true⟩ }) := by decide +kernel

/-- A demand of index 0 with this tag. -/
def entry (tag : Byte) : DemandEntry := ⟨tag, some 0, .ping, 10⟩

/-- A queue of this many demands with other tags. -/
def queue (n : Nat) : List DemandEntry := (List.range n).map fun k => entry (byteOf (100 + k))

/-- A node in each state of R22, its line in each state of R109, and its queue at 7 and at 8 entries. -/
theorem meets_DemandQueuedOrRefused :
    let s := fun state line n => holding (node state .none) { up line with demandQueue := queue n }
    demandBody [0, 1] = some (0, .ping) ∧ demandBody [0, 2, 0, 100, 24] = some (0, .read 100 24) ∧
    (Asks (some .demand) 0x40 [0, 1] { s .online .idle 0 with tags := [5] } ∧ Asks (some .demand) 0x40 [0, 1] State.reset ∧
      State.reset.liveNode 0 = none) ∧
    (∀ state, state ∈ [NodeState.offline, .disabled, .new, .online, .suspect] →
      (s state .idle 0).liveNode 0 = some (node state .none) ∧ Asks (some .demand) 0x40 [0, 1] (s state .idle 0)) ∧
    (∀ line, line ∈ [LineState.off, .fault, .guard] → Asks (some .demand) 0x40 [0, 1] (s .suspect line 0)) ∧
    (Asks (some .demand) 0x40 [0, 1] (s .new .waiting 8) ∧ (queue 8).length = 8 ∧ (queue 7).length < 8 ∧
      Asks (some .demand) 0x40 [0, 1] (s .new .waiting 7)) := by
  refine ⟨by decide, by decide, by decide +kernel, ?_, ?_, by decide +kernel⟩
  · intro state h
    fin_cases h <;> decide +kernel
  · intro line h
    fin_cases h <;> decide +kernel

theorem meets_BroadcastQueuedOrRefused :
    let body : List Byte := [0, 0, 5, 1, 0xAB, 0xCD]
    let s := fun line n => { State.reset with lineA := { up line with demandQueue := queue n } }
    broadcastBody body = some (.a, .write 5 1 [0xAB, 0xCD]) ∧
    (Asks (some .broadcast) 0x41 body { s .idle 0 with tags := [5] } ∧ Asks (some .broadcast) 0x41 body (s .off 0) ∧
      Asks (some .broadcast) 0x41 body (s .fault 0) ∧ Asks (some .broadcast) 0x41 body (s .sending 8) ∧
      Asks (some .broadcast) 0x41 body (s .sending 7)) := by decide +kernel

/-- The target queued on each line, in flight, and nowhere. -/
theorem meets_CancelReachesQueuedOnly :
    let s := fun q => { State.reset with lineB := { up .waiting with demandQueue := q } }
    let f := { State.reset with lineA := flying .waiting (flight (.demand 0 0x33 10) .ping) }
    cancelBody [0x33] = some 0x33 ∧
    (Asks (some .cancel) 0x42 [0x33] (s [entry 1, entry 0x33, entry 2]) ∧
      ((s [entry 1, entry 0x33, entry 2]).line .b).demandQueue = [entry 1] ++ entry 0x33 :: [entry 2] ∧
      (entry 0x33).tag = 0x33 ∧ (∀ q ∈ [entry 1], q.tag ≠ 0x33) ∧
      ∀ q ∈ (s [entry 1, entry 0x33, entry 2]).lineA.demandQueue, q.tag ≠ 0x33) ∧
    (Asks (some .cancel) 0x42 [0x33] f ∧ (∀ l, ∀ q ∈ (f.line l).demandQueue, q.tag ≠ 0x33) ∧
      (f.line .a).transaction = some (flight (.demand 0 0x33 10) .ping)) ∧
    (Asks (some .cancel) 0x42 [0x33] State.reset ∧ (∀ l, ∀ q ∈ (State.reset.line l).demandQueue, q.tag ≠ 0x33) ∧
      ∀ l, (State.reset.line l).transaction = none) := by
  refine ⟨by decide, by decide +kernel, ⟨by decide +kernel, ?_, rfl⟩, by decide +kernel, ?_, ?_⟩ <;>
    (intro l; cases l <;> decide)

/-- A scan job of this tag, with this probe in flight. -/
def scan (tag : Byte) (probe : Option Byte) : ScanJob := ⟨tag, 1, 247, 5, 4, probe, 3, [⟨2, 0x0102⟩], false⟩

theorem meets_ScanStartCreatesJob :
    let s := fun x => { State.reset with lineB := x }
    scanStartBody [1, 1, 247, 250] = some (.b, 1, 247, 250) ∧
    (Asks (some .scanStart) 0x50 [1, 1, 247, 250] { s (up .idle) with tags := [5] } ∧
      Asks (some .scanStart) 0x50 [1, 1, 247, 250] (s (up .off)) ∧ Asks (some .scanStart) 0x50 [1, 1, 247, 250] (s (up .fault)) ∧
      Asks (some .scanStart) 0x50 [1, 1, 247, 250] (s { up .guard with scan := some (scan 9 none) }) ∧
      Asks (some .scanStart) 0x50 [1, 1, 247, 250] (s (up .guard))) := by decide +kernel

theorem meets_ScanAbortEndsOrFlagsJob :
    let s := fun j => { State.reset with lineA := { up .guard with scan := j } }
    lineBody [0] = some .a ∧ Asks (some .scanAbort) 0x51 [0] (s none) ∧
      Asks (some .scanAbort) 0x51 [0] (s (some (scan 9 none))) ∧ (scan 9 none).probe = none ∧
      Asks (some .scanAbort) 0x51 [0] (s (some (scan 9 (some 4)))) ∧ (scan 9 (some 4)).probe = some 4 := by decide +kernel

/-- Every choice of target, and the largest generation. -/
theorem meets_StoreSaveStartsWrite :
    let s := fun a b => { State.reset with storeSlot0 := a, storeSlot1 := b }
    let none_ := StoreSlot.blank
    (Asks (some .storeSave) 0x60 [] { s none_ none_ with tags := [5] } ∧
      Asks (some .storeSave) 0x60 [] { s none_ none_ with storeJob := some (.erase 9 .s0 [] false) }) ∧
    (Asks (some .storeSave) 0x60 [] (s none_ none_) ∧ none_.valid = false) ∧
    (Asks (some .storeSave) 0x60 [] (s (saved 1) none_) ∧ (saved 1).valid = true) ∧
    Asks (some .storeSave) 0x60 [] (s none_ (saved 1)) ∧
    (Asks (some .storeSave) 0x60 [] (s (saved 1) (saved 2)) ∧ (saved 2).valid = true) ∧
    Asks (some .storeSave) 0x60 [] (s (saved 2) (saved 1)) ∧
    (Asks (some .storeSave) 0x60 [] (s (saved 0xFFFFFFFF) none_) ∧ (saved 0xFFFFFFFF).valid = true) := by decide +kernel

theorem meets_StoreEraseStartsInvalidation :
    let s := fun a b => { State.reset with storeSlot0 := a, storeSlot1 := b }
    let none_ := StoreSlot.blank
    (Asks (some .storeErase) 0x61 [] { s none_ none_ with tags := [5] } ∧
      Asks (some .storeErase) 0x61 [] { s none_ none_ with storeJob := some (.erase 9 .s0 [] false) }) ∧
    Asks (some .storeErase) 0x61 [] (s none_ none_) ∧ Asks (some .storeErase) 0x61 [] (s (saved 1) none_) ∧
    Asks (some .storeErase) 0x61 [] (s none_ (saved 1)) ∧ Asks (some .storeErase) 0x61 [] (s (saved 1) (saved 2)) ∧
    Asks (some .storeErase) 0x61 [] (s (saved 2) (saved 1)) := by decide +kernel

/-- Each slot FREE or not, the device's address and another, a write and a read in progress, and 62 and 63 bytes stored. -/
theorem meets_WriteTransactionFillsSlot :
    let s := fun a b => { State.reset with slot0 := a, slot1 := b }
    (State.reset.resetting = none ∧ State.reset.link = .none ∧ (0x3A : BitVec 7) = State.reset.targetAddress ∧
      (0x3B : BitVec 7) ≠ State.reset.targetAddress ∧ State.reset.slot0 = .free) ∧
    ((s (.full []) .free).slot0 ≠ .free ∧ (s (.full []) .free).slot1 = .free ∧
      (0x3A : BitVec 7) = (s (.full []) .free).targetAddress) ∧
    ((s (.full []) (.full [])).slot1 ≠ .free ∧ (s (.full []) (.full [])).link = .none) ∧
    (let w := { s (.filling []) .free with link := .write .s0 false };
      w.resetting = none ∧ w.link = .write .s0 false ∧ ∃ u, exec .writeTransactionEnd w = .next u) ∧
    (let r := { State.reset with link := .read none 0 };
      r.resetting = none ∧ r.link = .read none 0 ∧ ∃ u, exec .readTransactionEnd r = .next u) ∧
    (let f := fun n => { s (.filling (List.replicate n 0)) .free with link := .write .s0 false };
      (f 62).link = .write .s0 false ∧ (f 62).slot .s0 = .filling (List.replicate 62 0) ∧ (List.replicate 62 (0 : Byte)).length < 63 ∧
        (f 63).slot .s0 = .filling (List.replicate 63 0) ∧ 63 ≤ (List.replicate 63 (0 : Byte)).length) :=
  ⟨by decide, by decide, by decide, ⟨rfl, rfl, _, rfl⟩, ⟨rfl, rfl, _, rfl⟩, by decide⟩

/-- No byte, the frame of chapter 10, its last bit wrong, and over-length. -/
theorem meets_WriteEndChecksFrame :
    let s := fun late bytes => { State.reset with slot0 := .filling bytes, link := .write .s0 late }
    (∀ late bytes, (s late bytes).resetting = none ∧ (s late bytes).link = .write .s0 late ∧
      (s late bytes).slot .s0 = .filling bytes) ∧
    (∃ kind tag body, body.length ≤ 58 ∧
      ([5, 1, 0, 0x14, 0x5D] : List Byte) = withCrc (byteOf (5 + body.length) :: kind :: tag :: body)) ∧
    (([5, 1, 0, 0x14] : List Byte) ≠ [] ∧ ¬∃ kind tag body, body.length ≤ 58 ∧
      ([5, 1, 0, 0x14] : List Byte) = withCrc (byteOf (5 + body.length) :: kind :: tag :: body)) := by
  refine ⟨fun _ _ => ⟨rfl, rfl, rfl⟩, ⟨1, 0, [], by decide +kernel⟩, by decide, ?_⟩
  rintro ⟨kind, tag, body, -, h⟩
  have := congrArg List.length h
  simp [withCrc, halfBytes] at this

/-- The device's address and another, a write and a read in progress, the last byte of a message and the one after it, and the
first two bytes of an empty queue. -/
theorem meets_ReadTransactionSendsHead :
    let ready := Message.notice (.ready .power 0 0)
    let r := fun m n => { State.reset with link := .read m n }
    (State.reset.resetting = none ∧ State.reset.link = .none ∧ (0x3A : BitVec 7) = State.reset.targetAddress ∧
      (0x00 : BitVec 7) ≠ State.reset.targetAddress) ∧
    (let w := { State.reset with slot0 := .filling [], link := .write .s0 false };
      w.resetting = none ∧ w.link = .write .s0 false ∧ ∃ u, exec .writeTransactionEnd w = .next u) ∧
    ((r none 0).link = .read none 0 ∧ ∃ u, exec .readTransactionEnd (r none 0) = .next u) ∧
    ((r (some ready) 10).link = .read (some ready) 10 ∧ ready.bytes[10]? ≠ none ∧
      (r (some ready) 11).link = .read (some ready) 11 ∧ ready.bytes.length ≤ 11) ∧
    ((r none 1).link = .read none 1 ∧ (0 : Nat) < 1) ∧ NodeState.disabled.code = some 4 :=
  ⟨by decide, ⟨rfl, rfl, _, rfl⟩, ⟨rfl, _, rfl⟩, by decide +kernel, ⟨rfl, by decide⟩, rfl⟩

theorem meets_ReadEndRemovesWholeMessage :
    let ready := Message.notice (.ready .power 0 0)
    let r := fun m n => { State.reset with link := .read m n }
    (∀ m n, (r m n).resetting = none ∧ (r m n).link = .read m n) ∧ ready.bytes.length ≤ 11 ∧ 10 < ready.bytes.length :=
  ⟨fun _ _ => ⟨rfl, rfl⟩, by decide +kernel, by decide +kernel⟩

theorem meets_StalledTransactionAbandoned :
    (∀ link, { State.reset with link := link }.resetting = none ∧ { State.reset with link := link }.link = link) :=
  fun _ => ⟨rfl, rfl⟩

theorem meets_TickAloneMovesPartTime :
    State.reset.resetting = none ∧ (∃ t, exec .partTimeTick State.reset = .next t) ∧
      (∃ t, exec (.resetComplete true true) { State.reset with resetting := some .pin } = .next t) ∧
      ∃ t, exec (.guardEnd .a) State.reset = .next t := ⟨rfl, ⟨_, rfl⟩, ⟨_, rfl⟩, ⟨_, rfl⟩⟩

/-- Each timer due, one millisecond early, and stopped. -/
theorem meets_TimerExpiryJoinsDueList :
    let s := fun due now => { holding (node .online .none) ((up .idle).setPollTimer 0 due) with partTime := now }
    let r := fun now => { holding (node .offline .none) ((up .idle).setRecoveryTimer 0 (some 70)) with partTime := now }
    ((s (some 70) 70).resetting = none ∧ (s (some 70) 70).node 0 = some (node .online .none) ∧
      ((s (some 70) 70).line .a).pollTimers.get 0 = some (s (some 70) 70).partTime) ∧
    ((s (some 70) 69).line .a).pollTimers.get 0 ≠ some (s (some 70) 69).partTime ∧
    ((s none 0).line .a).pollTimers.get 0 ≠ some (s none 0).partTime ∧
    ((r 70).node 0 = some (node .offline .none) ∧ ((r 70).line .a).recoveryTimers.get 0 = some (r 70).partTime) ∧
    ((r 69).line .a).recoveryTimers.get 0 ≠ some (r 69).partTime := by decide +kernel

theorem meets_WaitingEntriesAge :
    let s := fun now => { polling .waiting with
      partTime := now, snapshots := State.reset.snapshots.set 0 (some { update := 0, record := some ⟨[9, 8], 5, false⟩ }) }
    (s 0).resetting = none ∧ (s 0).node 0 = some (node .online .attached) ∧
      (s 240005).snapshot 0 = some { update := 0, record := some ⟨[9, 8], 5, false⟩ } ∧
      (s 240005).partTime - 5 = 240000 ∧ (s 240004).partTime - 5 ≠ 240000 ∧
      60000 < ((s 60006).partTime - 5).toNat ∧ ((s 60006).partTime - 5).toNat ≤ 2147483647 ∧
      ¬60000 < ((s 60005).partTime - 5).toNat := by decide +kernel

theorem meets_AttemptTimersExpire :
    let s := fun state timer frame reception => { State.reset with
      lineA := { flying state poll with timer := timer, openFrame := frame, reception := reception } }
    (((s .waiting .running none none).line .a).state = .waiting ∧ ((s .waiting .running none none).line .a).timer = .running ∧
      ((s .waiting .running none none).line .a).transaction = some poll) ∧
    (((s .receiving .halted none none).line .a).state = .receiving ∧ ((s .receiving .halted none none).line .a).timer = .halted) ∧
    (((s .sending .running none none).line .a).state = .sending ∧ ((s .sending .running none none).line .a).timer = .running) ∧
    ((s .idle .stopped none none).line .a).timer = .stopped ∧
    (((s .receiving .halted (some [17]) none).line .a).openFrame = some [17] ∧
      ((s .receiving .halted (some [17]) none).line .a).reception = none) ∧
    (((s .guard .stopped (some [9]) none).line .a).openFrame = some [9] ∧
      ((s .guard .stopped (some [9]) none).line .a).state ≠ .receiving) ∧
    ((s .guard .stopped (some [9]) (some .plain)).line .a).reception ≠ none := by decide +kernel

/-- The third and the fourth consecutive collision; no echo outstanding. -/
theorem meets_MissingEchoIsCollision :
    let s := fun run sent => { State.reset with
      lineA := { flying .sending poll with collisionRun := run, frame := poll.frame, sent := sent } }
    (((s 2 1).line .a).state = .sending ∧ ((s 2 1).line .a).echoed < ((s 2 1).line .a).sent ∧ ((s 2 1).line .a).collisionRun < 3) ∧
    3 ≤ ((s 3 1).line .a).collisionRun ∧ ((s 0 0).line .a).sent ≤ ((s 0 0).line .a).echoed ∧ State.reset.resetting = none ∧
    (State.reset.line .a).state ≠ .sending := by decide +kernel

theorem meets_StuckSpaceEntersFault :
    let s := fun state mark => { State.reset with lineA := { up state with pinMark := mark } }
    { s .guard false with outbound := [.notice (.lineState .a .idle .none)] }.noticeQueued (.lineState .a) = true ∧
    (((s .guard false).line .a).state ≠ .off ∧ ((s .guard false).line .a).state ≠ .fault ∧
      ((s .guard false).line .a).pinMark = false) ∧
    ((s .off false).line .a).state = .off ∧ ((s .fault false).line .a).state = .fault ∧
    ((s .idle true).line .a).pinMark = true ∧ (s .idle true).resetting = none := by decide

theorem meets_FaultRecoveryEntersIdle :
    let s := fun state mark => { State.reset with lineA := { up state with pinMark := mark } }
    (((s .fault true).line .a).state = .fault ∧ ((s .fault true).line .a).pinMark = true ∧ (s .fault true).resetting = none) ∧
    ((s .guard true).line .a).state ≠ .fault ∧ ((s .fault false).line .a).pinMark = false := by decide

theorem meets_GuardEndRetriesOrIdles :
    let s := fun x => { State.reset with lineA := x }
    (((s (flying .guard poll)).line .a).state = .guard ∧ ((s (flying .guard poll)).line .a).reception = none ∧
      ((s (flying .guard poll)).line .a).pinMark = true ∧ ((s { up .guard with pinMark := false }).line .a).pinMark = false ∧
      ((s (flying .guard poll)).line .a).transaction = some poll ∧ 1 ≤ poll.made) ∧
    ((s (up .guard)).line .a).transaction = none ∧
    ((s { up .guard with reception := some .plain }).line .a).reception ≠ none ∧ ((s (up .idle)).line .a).state ≠ .guard ∧
    (s (up .idle)).resetting = none := by decide

/-- Each state, with and without an open frame, and each reception. -/
theorem meets_CharactersOutsideAttempt :
    let s := fun state frame reception => { State.reset with
      lineA := { up state with openFrame := frame, reception := reception } }
    let w := { State.reset with lineA := flying .waiting poll }
    (∀ state frame reception, (s state frame reception).resetting = none ∧ ((s state frame reception).line .a).state = state ∧
      ((s state frame reception).line .a).openFrame = frame ∧ ((s state frame reception).line .a).reception = reception) ∧
    ((w.line .a).state = .waiting ∧ (w.line .a).transaction = some poll ∧ (w.line .a).reception = none ∧
      ¬(true = true ∧ (16 : Byte) = poll.target) ∧ ¬(false = true ∧ (17 : Byte) = poll.target)) :=
  ⟨fun _ _ _ => ⟨rfl, rfl, rfl, rfl⟩, by decide⟩

/-- A complete frame of a PING in flight: the candidate response with sequence number 0, then with another one. -/
def candidate (answer : List Byte) : State :=
  { State.reset with
    lineA := { flying .receiving (flight (.demand 0 0x33 10) .ping) with openFrame := some answer.dropLast, timer := .halted } }

/-- An answer with a wrong CRC, another sequence number, a good PING ANSWER, an EXCEPTION, and reason 0; a LEN of 48 and 49. -/
theorem meets_CandidateResponseDecides :
    let t := flight (.demand 0 0x33 10) .ping
    let w := { State.reset with lineA := flying .waiting t }
    (w.resetting = none ∧ (w.line .a).state = .waiting ∧ (w.line .a).transaction = some t ∧ (w.line .a).reception = none ∧
      (17 : Byte) = t.target) ∧
    (∀ answer, (candidate answer).resetting = none ∧ ((candidate answer).line .a).state = .receiving ∧
      ((candidate answer).line .a).transaction = some t ∧ ((candidate answer).line .a).openFrame = some answer.dropLast ∧
      ((candidate answer).line .a).reception = none ∧ ((candidate answer).line .a).elapsed = false) ∧
    (([17] ++ [0x81] : List Byte)[3]? = none ∧ ([17, 0x81, 0] ++ [48] : List Byte)[3]? = some 48 ∧
      ([17, 0x81, 0] ++ [49] : List Byte)[3]? = some 49 ∧ 48 < (49 : Byte).toNat ∧ (48 : Byte).toNat ≤ 48 ∧
      ([17, 0x81, 0] ++ [48] : List Byte).length ≠ 6 + (48 : Byte).toNat) ∧
    (let frame : List Byte := [17, 0x81, 0, 2, 0x12, 0x34];
      withCrc frame = frame ++ [0xA4, 0x13] ∧ (frame ++ [0xA4, 0x13]).length = 6 + (2 : Byte).toNat ∧
        halfOf 0xA4 0x13 = crc frame ∧ halfOf 0xA4 0x12 ≠ crc frame ∧ (0 : Byte) = t.sequence ∧ (1 : Byte) ≠ t.sequence) ∧
    ((0x81 : Byte) = t.operation.answerKind ∧ ([0x12, 0x34] : List Byte).length = t.operation.answerLength) ∧
    ((255 : Byte) ≠ 0 ∧ (0x8F : Byte) ≠ t.operation.answerKind ∧
      ¬((0x8F : Byte) = 0x8F ∧ ∃ reason, ([0] : List Byte) = [reason] ∧ reason ≠ 0)) := by
  refine ⟨by decide, fun _ => ⟨rfl, rfl, rfl, rfl, rfl, rfl⟩, by decide, by decide +kernel, by decide, by decide, by decide, ?_⟩
  rintro ⟨-, reason, h, hr⟩
  simp only [List.cons.injEq, and_true] at h
  exact hr h.symm

/-- The last character of a poll's frame and of a broadcast's, and the echo of each kind. -/
theorem meets_SendingChecksEchoes :
    let b := { flight (.broadcast 9 7) (.write 0 1 [1, 2]) with target := 0, timeout := none }
    let s := fun (t : Transaction) sent echoed => { State.reset with lineA :=
      { flying .sending t with frame := t.frame, sent := sent, echoed := echoed, reception := some (.echo echoed) } }
    (∀ t sent echoed, (s t sent echoed).resetting = none ∧ ((s t sent echoed).line .a).state = .sending ∧
      ((s t sent echoed).line .a).transaction = some t ∧ ((s t sent echoed).line .a).frame = t.frame ∧
      ((s t sent echoed).line .a).sent = sent ∧ ((s t sent echoed).line .a).echoed = echoed ∧
      ((s t sent echoed).line .a).reception = some (.echo echoed) ∧ ((s t sent echoed).line .a).collisionRun = 0) ∧
    (poll.frame.length = 9 ∧ poll.frame[0]? = some 17 ∧ (0 : Nat) ≤ 0 ∧ poll.frame[8]? ≠ none ∧
      (∀ tag reserved, poll.kind ≠ .broadcast tag reserved)) ∧
    (b.frame.length = 11 ∧ b.kind = .broadcast 9 7 ∧ b.frame[10]? ≠ none) ∧
    (∀ reception elapsed, let x := { (s poll 9 8).line .a with reception := reception, elapsed := elapsed };
      x.reception = reception ∧ x.elapsed = elapsed ∧ x.state = .sending ∧ x.transaction = some poll) := by
  exact ⟨fun _ _ _ => ⟨rfl, rfl, rfl, rfl, rfl, rfl, rfl, rfl⟩,
    ⟨by decide +kernel, by decide +kernel, by decide, by decide +kernel, fun _ _ h => nomatch h⟩, by decide +kernel,
    fun _ _ => ⟨rfl, rfl, rfl, rfl⟩⟩

theorem meets_PinChangeBeginsCharacter :
    ∀ state mark reception,
      let s := { State.reset with lineA := { up state with pinMark := mark, reception := reception } }
      s.resetting = none ∧ (s.line .a).state = state ∧ (s.line .a).pinMark = mark ∧ (s.line .a).reception = reception :=
  fun _ _ _ => ⟨rfl, rfl, rfl, rfl⟩

/-- Each phase; no job; and the store in order with a job in its last phase, whose completion is the next command. -/
theorem meets_SaveJobPhases :
    (∀ phase, (Tests.saving phase).resetting = none ∧ (Tests.saving phase).storeJob = some (.save 0xA0 phase Image.empty .s1 8)) ∧
      (State.reset.storeJob = none ∧ phaseOfRow (.saveWriteCompletion 1) = some 1) ∧
      (phaseOfRow (.eraseTimerExpiry 7) = some 7 ∧ 7 ≠ (Tests.saving .write).storePhases) ∧
      (phaseOfRow .storeSave = none ∧ ∃ t, exec .storeSave (Tests.saving .write) = .next t) ∧
      let s := { Tests.saving .markWrite with pending := [.saveMarkWriteCompletion 1] }
      s.AddressesDistinct ∧ s.StoreInOrder ∧ ∃ t, step s = .next t := by
  refine ⟨fun _ => ⟨rfl, rfl⟩, ⟨rfl, rfl⟩, ⟨rfl, by decide⟩, ⟨rfl, _, rfl⟩, fun i _ m _ h => absurd h reset_node, ⟨?_, fun i n h => absurd h reset_node, ?_, .inl rfl⟩, _, rfl⟩
  · intro l
    cases l <;> decide
  · intro j hj
    cases hj
    refine ⟨by decide, by decide, by decide, ?_, fun _ => by decide⟩
    intro other _ hv
    cases other <;> revert hv <;> decide

theorem meets_EraseJobInvalidates :
    ∀ rest, (erasing rest).resetting = none ∧ (erasing rest).storeJob = some (.erase 0xB0 .s0 rest true) := fun _ => ⟨rfl, rfl⟩

/-- An entry passed because its notice is queued, one admitted into exactly its 9 bytes, and one that no longer fits. -/
theorem meets_WalkAdmitsInOrder :
    let s := { polling .waiting with
      notices := [.lineState .a, .nodeState 0, .change 0], reserved := 2020
      outbound := [.notice (.ready .power 0 0), .notice (.lineState .a .waiting .none)] }
    s.notices.Nodup ∧ s.notices = [.lineState .a, .nodeState 0] ++ [.change 0] ∧ s.eligible (.lineState .a) = false ∧
      s.eligible (.nodeState 0) = true ∧ s.eligible (.change 0) = true ∧ s.walk.freeSpace < (Subject.change 0).length ∧
      s.occupied + s.reserved ≤ 2048 := by decide +kernel

/-- A live index with its snapshot, and a free one; a notice that can be built, already pending, admitted at once with exactly its 6
bytes free, and with 5. -/
theorem meets_MarkMergesAdmitsOrJoins :
    let s := fun n => { State.reset with linkErrors := 1, reserved := n }
    (s 2031).buildNotice .linkError = some (.linkError 1) ∧
    Subject.linkError ∈ { s 0 with notices := [.linkError] }.notices ∧
    (Subject.linkError ∉ (s 2031).notices ∧ (s 2031).notices = [] ∧ (∀ m ∈ (s 2031).outbound, m.subject ≠ some .linkError) ∧
      (Message.notice (.linkError 1)).length ≤ (s 2031).freeSpace) ∧
    ¬(Message.notice (.linkError 1)).length ≤ (s 2032).freeSpace ∧
    (State.reset.liveNode 0 = none ∧ (polling .waiting).liveNode 0 = some (node .online .attached) ∧
      (polling .waiting).snapshot 0 = some {}) := by decide +kernel

/-- The reply of 6 bytes under 6 and under 7. -/
theorem meets_ReplyQueuedUnderReservation :
    (Reply.mk 0xE1 5 .ok []).data.length + 6 < 7 ∧ (Reply.mk 0xE1 5 .ok []).data.length + 6 = 6 := by decide

/-- A demand and a broadcast at the head, the streak at 4 with a node due, a recovery entry, and scans with a free address and
with none. -/
theorem meets_ArbiterChooses :
    let s := fun x => holding (node .online .none) x
    let q := { up .idle with demandQueue := [entry 1], streak := 3, dueList := [⟨0, .poll, 0⟩] }
    let d := { up .idle with demandQueue := [entry 1], streak := 4, dueList := [⟨0, .poll, 0⟩] }
    let c := { up .idle with scan := some { scan 9 none with next := 17, last := 18 } }
    let e := { up .idle with scan := some { scan 9 none with next := 17, last := 17 } }
    ((s (up .guard)).line .a).state ≠ .idle ∧
    (((s q).line .a).state = .idle ∧ ((s q).line .a).demandQueue = entry 1 :: [] ∧
      ¬(((s q).line .a).streak = 4 ∧ ((s q).line .a).dueList ≠ []) ∧ (entry 1).node = some 0 ∧
      (s q).node 0 = some (node .online .none)) ∧
    ({ entry 1 with node := none }.node = none) ∧
    (((s d).line .a).dueList = ⟨0, .poll, 0⟩ :: [] ∧ ((s d).line .a).streak = 4 ∧ config.descriptor = some ⟨0, 4⟩ ∧
      (DueEntry.mk 0 .recovery 0).kind = .recovery) ∧
    (((s c).line .a).demandQueue = [] ∧ ((s c).line .a).dueList = [] ∧ (17 : Byte).toNat ≤ (18 : Byte).toNat ∧
      (18 : Byte).toNat ≤ 247 ∧ (s c).addressHeld .a 17 = true ∧ (s c).addressHeld .a 18 = false) ∧
    ((s e).line .a).scan = some { scan 9 none with next := 17, last := 17 } ∧ ((s (up .idle)).line .a).scan = none := by
  decide +kernel

/-- The last attempt and one before it, on an ATTACHED node, on a DETACHED one, and without a node. -/
theorem meets_AttemptEndRetriesOrDelivers :
    let s := fun mark t => holding (node .online mark) (flying .waiting t)
    (∀ t mark, ((s mark t).line .a).transaction = some t ∧ (s mark t).node 0 = some (node .online mark)) ∧
    poll.kind.node = some 0 ∧ (node .online .attached).mark = .attached ∧ (node .online .detached).mark ≠ .attached ∧
    (flight .scanProbe .ping).kind.node = none ∧ poll.made < poll.allowed ∧ ¬{ poll with made := 2 }.made < poll.allowed :=
  ⟨fun _ _ => ⟨rfl, rfl⟩, by decide⟩

/-- One failure below the limit of 3, and the third. -/
theorem meets_ServiceOutcomeMovesNode :
    let n := fun mark failures => { node .suspect mark with failures := failures }
    (∀ mark failures, (holding (n mark failures) (up .guard)).node 0 = some (n mark failures) ∧ (n mark failures).mark = mark) ∧
    { holding (n .attached 2) (up .guard) with outbound := [.notice (.nodeState 0 17 .a .suspect)] }.noticeQueued (.nodeState 0) =
      true ∧
    (n .attached 1).failures + 1 < (n .attached 1).config.limit.toNat ∧
    (n .attached 2).config.limit.toNat ≤ (n .attached 2).failures + 1 :=
  ⟨fun _ _ => ⟨rfl, rfl⟩, by decide, by decide, by decide⟩

/-- Each kind of transaction; a poll of an ATTACHED and of a DETACHED node; the candidate one period on later, and not later,
than part time; a record with the same payload and none. -/
theorem meets_DeliveryReachesRecipients :
    let s := fun (n : Node) now => { holding n (up .guard) with partTime := now }
    ((flight (.demand 0 1 10) .ping).kind = .demand 0 1 10 ∧ (flight (.broadcast 1 7) .ping).kind = .broadcast 1 7 ∧
      (flight (.recoveryProbe 0) .ping).kind = .recoveryProbe 0 ∧ poll.kind = .poll 0 0) ∧
    (((s (node .online .attached) 0).applyOutcome .a 0 false (.ok [])).node 0 ≠ none ∧
      ((s { node .suspect .attached with failures := 2 } 0).applyOutcome .a 0 false .timeout).node 0 =
        some { node .offline .none with failures := 3 } ∧
      (s (node .online .detached) 0).node 0 = some (node .online .detached) ∧ (node .online .detached).mark ≠ .attached) ∧
    (1 ≤ (0 + config.period.setWidth 32 - (s (node .online .none) 999).partTime).toNat ∧
      ¬1 ≤ (0 + config.period.setWidth 32 - (s (node .online .none) 1000).partTime).toNat) ∧
    ((s (node .online .none) 0).snapshot 0 = some {} ∧ (¬∃ r, ({} : Snapshot).record = some r ∧ r.payload = [1]) ∧
      config.notify = true ∧ ∃ r, Snapshot.record { record := some ⟨[1], 0, false⟩ } = some r ∧ r.payload = [1]) := by
  refine ⟨by decide, by decide +kernel, by decide +kernel, rfl, ?_, rfl, _, rfl, rfl⟩
  rintro ⟨r, h, -⟩
  cases h

/-- A probe of an ATTACHED node; a scan job whose 16th find this is, whose last address this is, and which goes on. -/
theorem meets_ProbeOutcomesRecorded :
    let x := fun j => { flying .guard { flight .scanProbe .ping with target := 4 } with scan := some j }
    let n16 := { scan 9 (some 4) with found := List.replicate 15 ⟨2, 0⟩ }
    ((polling .guard).node 0 = some (node .online .attached) ∧ (node .online .attached).mark = .attached) ∧
    (∀ j, ({ State.reset with lineA := x j }.line .a).scan = some j) ∧ (flight .scanProbe .ping).kind = .scanProbe ∧
    16 ≤ (n16.settle 4 [⟨4, 0⟩]).found.length ∧
    { scan 9 (some 4) with last := 4 }.last.toNat < ((scan 9 (some 4)).settle 4 []).next.toNat ∧
    ((scan 9 (some 4)).settle 4 []).next.toNat ≤ (scan 9 (some 4)).last.toNat ∧ (scan 9 (some 4)).abort = false :=
  ⟨by decide, fun _ => rfl, rfl, by decide, by decide, by decide, rfl⟩

/-- The largest body; and a body of each kind with fields, at the ends of the ranges where it has them. -/
theorem meets_HostFramesRoundTrip :
    (Request.mk 0x40 0 (List.replicate 58 0)).body.length ≤ 58 ∧ requestKindOf 0x61 = some .storeErase ∧
    lineBody [1] = some .b ∧ indexBody [31] = some 31 ∧ lineInfoBody [1, 1] = some (.b, true) ∧
    nodeInfoBody [31, 0] = some (31, false) ∧ cancelBody [9] = some 9 ∧
    lineSetBody [0, 6, 20, 0xEA, 0x60, 100] = some (.a, ⟨6, 20, 60000, 100⟩) ∧
    nodeBody configBody = some (config, false) ∧ (nodeBody [247, 1, 8]).isSome = true ∧
    nodeSetBody (31 :: configBody) = some (31, config) ∧ demandBody [0, 2, 0xFF, 0xFF, 24] = some (0, .read 65535 24) ∧
    (demandBody ([0, 3, 0, 0, 22] ++ List.replicate 44 0)).isSome = true ∧
    broadcastBody [1, 0, 1, 1, 7, 7] = some (.b, .write 1 1 [7, 7]) ∧
    scanStartBody [1, 1, 247, 250] = some (.b, 1, 247, 250) := by decide

/-! ## A state with every law, from which a step starts a transaction -/

/-- Index 0 is ONLINE on an IDLE line, one demand reserves 10 bytes, and a demand's row is at the front of the queue. -/
def busy : State :=
  { holding (node .online .none) { up .guard with demandQueue := [entry 9] } with
    reserved := 10, tags := [9], notices := [.linkError], pending := [.guardEnd .a] }

theorem busy_node {j : Index} {m : Node} (h : busy.node j = some m) : j = 0 ∧ m = node .online .none :=
  holding_node (x := up .guard) h

theorem busy_steps : ∃ t, step busy = .next t ∧ (t.line .a).state = .sending := ⟨_, rfl, by decide +kernel⟩

theorem meets_LinesStayInOrder : busy.LinesInOrder ∧ busy.LinesInBounds := by
  refine ⟨fun _ l => ?_, fun l => ?_⟩
  · cases l <;> constructor <;> decide
  · cases l <;> refine ⟨by decide, by decide, ?_⟩ <;> rintro _ ⟨⟩

theorem meets_NodesStayInOrder : busy.NodesInOrder := by
  intro _
  have here : busy.node 0 = some (node .online .none) := by decide +kernel
  constructor
  · intro i n h
    rw [(busy_node h).2]
    exact ⟨rfl, by decide⟩
  · intro i n h hr
    rw [(busy_node h).2] at hr
    cases hr
  · intro l e he i hi
    cases l
    · rw [show (busy.line .a).demandQueue = [entry 9] by rfl, List.mem_singleton] at he
      subst he
      cases hi
      exact ⟨_, here, rfl, rfl⟩
    · cases he
  · intro l t i h
    cases l <;> cases h
  · intro l d h
    cases l <;> cases h
  · intro l
    cases l <;> exact List.nodup_nil
  · intro l i due h
    cases l <;> simp [busy, holding, up, State.line, State.reset, Vector.get_eq_getElem] at h
  · intro l i due h
    cases l <;> simp [busy, holding, up, State.line, State.reset, Vector.get_eq_getElem] at h
  · intro l t i h
    cases l <;> cases h
  · decide +kernel
  · intro i h
    rcases h with h | h <;> simp [busy] at h

theorem meets_AddressesStayDistinct : busy.AddressesDistinct := by
  intro i j m n hi hj _ _
  exact (busy_node hi).1.trans (busy_node hj).1.symm

/-- A frame waits in slot 0, a write fills slot 1; or the head message is being read. -/
theorem meets_link :
    { busy with
      slot0 := .full (Request.frame ⟨0x01, 5, []⟩), slot1 := .filling [5], slotOrder := [.s0], link := .write .s1 false }.LinkInOrder ∧
    { busy with link := .read busy.outbound.head? 11 }.LinkInOrder := by
  refine ⟨?_, ?_⟩
  · constructor
    · intro id; cases id <;> simp [State.slot]
    · intro id bytes h; cases id <;> simp [State.slot] at h; subst h; decide
    · intro id; cases id <;> simp [State.slot]
    · decide
    · intro id bytes h; cases id <;> simp [State.slot] at h; subst h; decide +kernel
    · simp
  · constructor
    · intro id; cases id <;> simp [State.slot, busy, holding, State.reset]
    · intro id bytes h; cases id <;> simp [State.slot, busy, holding, State.reset] at h
    · intro id; cases id <;> simp [State.slot, busy, holding, State.reset]
    · decide
    · intro id bytes h; cases id <;> simp [State.slot, busy, holding, State.reset] at h
    · rintro m sent h; simp only [LinkTransaction.read.injEq] at h; exact h.1

theorem meets_NoticesAndTagsStaySingle :
    busy.NoticesSingle ∧ busy.TagsDistinct ∧ busy.LinesInOrder ∧ busy.TagsAgree :=
  ⟨⟨by decide +kernel, by decide +kernel⟩, by simp [State.TagsDistinct, busy], meets_LinesStayInOrder.1, fun _ => .refl _⟩

theorem meets_SpaceStaysWithinQueue : busy.LinesInOrder ∧ busy.AccountsKept := by
  refine ⟨meets_LinesStayInOrder.1, fun _ => ?_⟩
  refine ⟨by unfold State.SpaceKept; decide +kernel, by decide +kernel, ?_, ?_, ?_, ?_, ?_⟩
  · intro l e he
    cases l
    · rw [show (busy.line .a).demandQueue = [entry 9] by rfl, List.mem_singleton] at he
      subst he
      exact ⟨rfl, trivial⟩
    · cases he
  · intro l t h
    cases l <;> cases h
  · intro l j h
    cases l <;> cases h
  · intro i n h
    rw [(busy_node h).2]
    decide
  · intro i x r hx hr
    by_cases hi : i = 0
    · subst hi; cases hx; cases hr
    · exfalso
      have hv : i.val ≠ 0 := fun h0 => hi (Fin.ext h0)
      simp [busy, holding, State.snapshot, State.reset, Vector.get_eq_getElem, Ne.symm hv] at hx

end Sys2Proof.Tests
end

/-! SUPPORT. What refers to a node entry, one index and one line at a time: the parts of `State.NodesAgree` for one index, and the
updates that take references away and add none. -/

namespace Sys2Proof.Machine

/-! ## What a line holds about an index -/

/-- A queued demand of the line names the index. -/
def Line.HasDemand (x : Line) (i : Index) : Prop := ∃ e ∈ x.demandQueue, e.node = some i

/-- The index stands in the due list of the line with an entry of this kind. -/
def Line.IsDueAs (x : Line) (i : Index) (k : DueKind) : Prop := ∃ d ∈ x.dueList, d.index = i ∧ d.kind = k

/-- The kind of the transaction in flight. -/
def Line.flightKind (x : Line) : Option TransactionKind := x.transaction.map Transaction.kind

/-- No index stands twice in the due list. -/
def Line.DueOnce (x : Line) : Prop := (x.dueList.map DueEntry.index).Nodup

/-- The line holds no queued demand, due-list entry or running timer of the index. -/
structure Line.Unscheduled (x : Line) (i : Index) : Prop where
  demand : ¬x.HasDemand i
  due : ¬x.IsDue i
  timers : x.Untimed i

/-- No transaction of the line refers to the index. -/
def Line.NoFlight (x : Line) (i : Index) : Prop := ∀ k, x.flightKind = some k → k.node ≠ some i

/-- Everything that line `y` holds about the index, line `x` holds too. -/
structure Line.NarrowsAt (x y : Line) (i : Index) : Prop where
  demand : y.HasDemand i → x.HasDemand i
  flight : ∀ k, y.flightKind = some k → k.node = some i → x.flightKind = some k
  due : ∀ k, y.IsDueAs i k → x.IsDueAs i k
  poll : y.pollTimers.get i ≠ none → x.pollTimers.get i ≠ none
  recovery : y.recoveryTimers.get i ≠ none → x.recoveryTimers.get i ≠ none

theorem Line.NarrowsAt.refl (x : Line) (i : Index) : x.NarrowsAt x i :=
  ⟨id, fun _ h _ => h, fun _ => id, id, id⟩

theorem Line.NarrowsAt.trans {x y z : Line} {i : Index} (h : x.NarrowsAt y i) (g : y.NarrowsAt z i) : x.NarrowsAt z i :=
  ⟨h.demand ∘ g.demand, fun k hk hi => h.flight k (g.flight k hk hi) hi, fun k => h.due k ∘ g.due k, h.poll ∘ g.poll,
    h.recovery ∘ g.recovery⟩

theorem Line.isDue_iff (x : Line) (i : Index) : x.IsDue i ↔ ∃ k, x.IsDueAs i k :=
  ⟨fun ⟨d, hd, hi⟩ => ⟨d.kind, d, hd, hi, rfl⟩, fun ⟨_, d, hd, hi, _⟩ => ⟨d, hd, hi⟩⟩

theorem Line.NarrowsAt.isDue {x y : Line} {i : Index} (h : x.NarrowsAt y i) (hy : y.IsDue i) : x.IsDue i := by
  obtain ⟨k, hk⟩ := (y.isDue_iff i).mp hy
  exact (x.isDue_iff i).mpr ⟨k, h.due k hk⟩

theorem Line.NarrowsAt.untimed {x y : Line} {i : Index} (h : x.NarrowsAt y i) (hx : x.Untimed i) : y.Untimed i :=
  ⟨by_contra fun g => h.poll g hx.1, by_contra fun g => h.recovery g hx.2⟩

theorem Line.NarrowsAt.unscheduled {x y : Line} {i : Index} (h : x.NarrowsAt y i) (hx : x.Unscheduled i) : y.Unscheduled i :=
  ⟨fun g => hx.demand (h.demand g), fun g => hx.due (h.isDue g), h.untimed hx.timers⟩

theorem Line.NarrowsAt.noFlight {x y : Line} {i : Index} (h : x.NarrowsAt y i) (hx : x.NoFlight i) : y.NoFlight i :=
  fun k hk hi => hx k (h.flight k hk hi) hi

/-- Line `y` holds nothing that line `x` does not hold, but what it holds about the index `a`. -/
structure Line.Narrows (x y : Line) (a : Option Index) : Prop where
  at_ : ∀ j, some j ≠ a → x.NarrowsAt y j
  once : x.DueOnce → y.DueOnce

theorem Line.Narrows.refl (x : Line) (a : Option Index) : x.Narrows x a := ⟨fun j _ => .refl x j, id⟩

theorem Line.Narrows.trans {x y z : Line} {a : Option Index} (h : x.Narrows y a) (g : y.Narrows z a) : x.Narrows z a :=
  ⟨fun j hj => (h.at_ j hj).trans (g.at_ j hj), g.once ∘ h.once⟩

/-- A line with the same demand queue, kind in flight, due list and timers. -/
theorem Line.Narrows.of_same {x y : Line} {a : Option Index} (hd : y.demandQueue = x.demandQueue)
    (hf : y.flightKind = x.flightKind) (hl : y.dueList = x.dueList) (hp : y.pollTimers = x.pollTimers)
    (hr : y.recoveryTimers = x.recoveryTimers) : x.Narrows y a := by
  refine ⟨fun j _ => ⟨?_, ?_, ?_, ?_, ?_⟩, ?_⟩ <;>
    simp only [Line.HasDemand, Line.IsDueAs, Line.DueOnce, hd, hf, hl, hp, hr, imp_self, implies_true]
  exact fun _ h _ => h

/-- A line that lost some of its queue, due list and timers, and has the same transaction or one that refers to no node. -/
theorem Line.Narrows.of_less {x y : Line} {a : Option Index} (hd : y.demandQueue.Sublist x.demandQueue)
    (hf : y.flightKind = x.flightKind ∨ ∀ k, y.flightKind = some k → k.node = none) (hl : y.dueList.Sublist x.dueList)
    (hp : ∀ j, y.pollTimers.get j = x.pollTimers.get j ∨ y.pollTimers.get j = none)
    (hr : ∀ j, y.recoveryTimers.get j = x.recoveryTimers.get j ∨ y.recoveryTimers.get j = none) : x.Narrows y a := by
  refine ⟨fun j _ => ⟨?_, ?_, ?_, ?_, ?_⟩, fun h => h.sublist (hl.map _)⟩
  · exact fun ⟨e, he, hi⟩ => ⟨e, hd.subset he, hi⟩
  · intro k hk hj
    rcases hf with hf | hf
    · exact hf ▸ hk
    · rw [hf k hk] at hj; cases hj
  · exact fun k ⟨d, hd, hi⟩ => ⟨d, hl.subset hd, hi⟩
  · intro h; rcases hp j with g | g <;> simp_all
  · intro h; rcases hr j with g | g <;> simp_all

/-! ## A line and a node entry agree -/

/-- The entry is in use, bound to this line, and has this property. -/
def EntryOn (m : Option Node) (l : LineId) (p : Node → Prop) : Prop := ∃ n, m = some n ∧ n.config.line = l ∧ p n

/-- What a line holds about an index agrees with the entry there: the parts of `State.NodesAgree` for one line and one index. -/
structure Line.AgreesAt (x : Line) (l : LineId) (i : Index) (m : Option Node) : Prop where
  demand : x.HasDemand i → EntryOn m l fun n => n.state.served = true
  flight : ∀ k, x.flightKind = some k → k.node = some i →
    EntryOn m l fun n => n.mark ≠ .none ∧ (n.mark = .attached → k.Names n)
  due : ∀ k, x.IsDueAs i k → EntryOn m l k.Names ∧ x.Untimed i
  poll : x.pollTimers.get i ≠ none → EntryOn m l Node.Polled
  recovery : x.recoveryTimers.get i ≠ none → EntryOn m l fun n => n.state = .offline
  service : ∀ k, x.flightKind = some k → k.service = some i → (∃ n, m = some n ∧ n.mark = .attached) →
    x.Untimed i ∧ ¬x.IsDue i

/-- A transaction that serves an index refers to it. -/
theorem TransactionKind.node_of_service {k : TransactionKind} {i : Index} (h : k.service = some i) : k.node = some i := by
  cases k with
  | poll | recoveryProbe => exact h
  | demand | broadcast | scanProbe => cases h

theorem Line.AgreesAt.narrow {x y : Line} {l : LineId} {i : Index} {m : Option Node} (h : x.AgreesAt l i m)
    (g : x.NarrowsAt y i) : y.AgreesAt l i m where
  demand hy := h.demand (g.demand hy)
  flight k hk hi := h.flight k (g.flight k hk hi) hi
  due k hk := ⟨(h.due k (g.due k hk)).1, g.untimed (h.due k (g.due k hk)).2⟩
  poll hy := h.poll (g.poll hy)
  recovery hy := h.recovery (g.recovery hy)
  service k hk hi hm := by
    obtain ⟨ht, hd⟩ := h.service k (g.flight k hk (TransactionKind.node_of_service hi)) hi hm
    exact ⟨g.untimed ht, fun hy => hd (g.isDue hy)⟩

/-- A line without schedule for the index agrees with any entry that its transaction admits. -/
theorem Line.Unscheduled.agreesAt {x : Line} {i : Index} (h : x.Unscheduled i) {l : LineId} {m : Option Node}
    (hf : ∀ k, x.flightKind = some k → k.node = some i →
      EntryOn m l fun n => n.mark ≠ .none ∧ (n.mark = .attached → k.Names n)) : x.AgreesAt l i m where
  demand hx := absurd hx h.demand
  flight := hf
  due k hk := absurd ((x.isDue_iff i).mpr ⟨k, hk⟩) h.due
  poll hx := absurd h.timers.1 hx
  recovery hx := absurd h.timers.2 hx
  service _ _ _ _ := ⟨h.timers, h.due⟩

/-- A line that agrees with no entry of its own at the index holds nothing about it. -/
theorem Line.AgreesAt.foreign {x : Line} {l : LineId} {i : Index} {m : Option Node} (h : x.AgreesAt l i m)
    (hm : ∀ n, m = some n → n.config.line ≠ l) : x.Unscheduled i ∧ x.NoFlight i := by
  have none_on : ∀ p, ¬EntryOn m l p := fun p ⟨n, hn, hl, _⟩ => hm n hn hl
  refine ⟨⟨fun hx => none_on _ (h.demand hx), fun hx => ?_, ?_⟩, fun k hk hi => none_on _ (h.flight k hk hi)⟩
  · obtain ⟨k, hk⟩ := (x.isDue_iff i).mp hx
    exact none_on _ (h.due k hk).1
  · exact ⟨by_contra fun hx => none_on _ (h.poll hx), by_contra fun hx => none_on _ (h.recovery hx)⟩

/-- An entry that no demand, due-list entry or timer may name has none. -/
theorem Line.AgreesAt.unscheduled {x : Line} {l : LineId} {i : Index} {n : Node} (h : x.AgreesAt l i (some n))
    (hs : n.state.served = false) (ho : n.state ≠ .offline) : x.Unscheduled i := by
  have not_on : ∀ p : Node → Prop, (p n → n.state.served = true ∨ n.state = .offline) → ¬EntryOn (some n) l p := by
    rintro p hp ⟨_, ⟨⟩, _, hpn⟩
    rcases hp hpn with g | g
    · rw [hs] at g; cases g
    · exact ho g
  refine ⟨fun hx => not_on _ .inl (h.demand hx), fun hx => ?_, ?_⟩
  · obtain ⟨k, hk⟩ := (x.isDue_iff i).mp hx
    refine not_on k.Names (fun hk => ?_) (h.due k hk).1
    cases k with
    | poll => exact .inl hk.1
    | recovery => exact .inr hk
  · exact ⟨by_contra fun hx => not_on _ (fun hp => .inl hp.1) (h.poll hx),
      by_contra fun hx => not_on _ .inr (h.recovery hx)⟩

/-! ## An index agrees -/

/-- A pending notice of the node table or of a snapshot concerns the index. -/
def State.PendingAt (s : State) (i : Index) : Prop := Subject.nodeState i ∈ s.notices ∨ Subject.change i ∈ s.notices

/-- An entry's failure count agrees with its state, its limit is in range, and while REMOVING it waits for its transaction. -/
structure Node.Sound (n : Node) : Prop where
  failures : n.FailuresAgree
  limit : 1 ≤ n.config.limit.toNat
  removing : n.state = .removing → n.mark = .detached

/-- The parts of `State.NodesAgree` that concern one index. -/
structure State.IndexAgrees (s : State) (i : Index) : Prop where
  sound : ∀ n, s.node i = some n → n.Sound
  line : ∀ l, (s.line l).AgreesAt l i (s.node i)
  snapshot : s.snapshot i = none ↔ s.liveNode i = none
  pending : s.PendingAt i → s.liveNode i ≠ none

theorem State.attached_iff (s : State) (i : Index) : s.attached i = true ↔ ∃ n, s.node i = some n ∧ n.mark = .attached := by
  unfold State.attached
  split <;> simp_all

theorem State.nodesAgree_iff (s : State) : s.NodesAgree ↔ (∀ i, s.IndexAgrees i) ∧ ∀ l, (s.line l).DueOnce := by
  constructor
  · intro h
    refine ⟨fun i => ⟨?_, fun l => ⟨?_, ?_, ?_, ?_, ?_, ?_⟩, h.snapshots i, h.pending i⟩, h.due_once⟩
    · exact fun n hn => ⟨(h.failures i n hn).1, (h.failures i n hn).2, h.removing i n hn⟩
    · exact fun ⟨e, he, hi⟩ => h.demands l e he i hi
    · intro k hk hi
      obtain ⟨t, ht, rfl⟩ := Option.map_eq_some_iff.mp hk
      exact h.flight l t i ht hi
    · rintro k ⟨d, hd, rfl, rfl⟩
      exact h.due l d hd
    · intro hx
      obtain ⟨w, hw⟩ := Option.ne_none_iff_exists'.mp hx
      exact h.poll_timers l i w hw
    · intro hx
      obtain ⟨w, hw⟩ := Option.ne_none_iff_exists'.mp hx
      exact h.recovery_timers l i w hw
    · intro k hk hi hm
      obtain ⟨t, ht, rfl⟩ := Option.map_eq_some_iff.mp hk
      exact h.service l t i ht hi ((s.attached_iff i).mpr hm)
  · rintro ⟨h, ho⟩
    constructor
    · exact fun i n hn => ⟨((h i).sound n hn).failures, ((h i).sound n hn).limit⟩
    · exact fun i n hn => ((h i).sound n hn).removing
    · exact fun l e he i hi => ((h i).line l).demand ⟨e, he, hi⟩
    · exact fun l t i ht hi => ((h i).line l).flight t.kind (by simp [Line.flightKind, ht]) hi
    · exact fun l d hd => ((h d.index).line l).due d.kind ⟨d, hd, rfl, rfl⟩
    · exact ho
    · exact fun l i w hw => ((h i).line l).poll (by simp [hw])
    · exact fun l i w hw => ((h i).line l).recovery (by simp [hw])
    · exact fun l t i ht hi hm =>
        ((h i).line l).service t.kind (by simp [Line.flightKind, ht]) hi ((s.attached_iff i).mp hm)
    · exact fun i => (h i).snapshot
    · exact fun i => (h i).pending

theorem State.NodesAgree.at_ {s : State} (h : s.NodesAgree) (i : Index) : s.IndexAgrees i := (s.nodesAgree_iff.mp h).1 i
theorem State.NodesAgree.once {s : State} (h : s.NodesAgree) (l : LineId) : (s.line l).DueOnce := (s.nodesAgree_iff.mp h).2 l

/-! ## Updates that add no reference -/

/-- State `t` holds the entries and snapshots of `s`, and refers to no node to which `s` does not refer, but for the index `a`. -/
structure State.Narrows (s t : State) (a : Option Index) : Prop where
  node : ∀ j, some j ≠ a → t.node j = s.node j
  snapshot : ∀ j, some j ≠ a → t.snapshot j = s.snapshot j
  pending : ∀ j, some j ≠ a → t.PendingAt j → s.PendingAt j
  line : ∀ l, (s.line l).Narrows (t.line l) a

theorem State.Narrows.refl (s : State) (a : Option Index) : s.Narrows s a :=
  ⟨fun _ _ => rfl, fun _ _ => rfl, fun _ _ => id, fun _ => .refl _ a⟩

theorem State.Narrows.trans {s t u : State} {a : Option Index} (h : s.Narrows t a) (g : t.Narrows u a) : s.Narrows u a :=
  ⟨fun j hj => (g.node j hj).trans (h.node j hj), fun j hj => (g.snapshot j hj).trans (h.snapshot j hj),
    fun j hj => h.pending j hj ∘ g.pending j hj, fun l => (h.line l).trans (g.line l)⟩

theorem State.liveNode_congr {s t : State} {i : Index} (h : t.node i = s.node i) : t.liveNode i = s.liveNode i := by
  simp [State.liveNode, h]

theorem State.IndexAgrees.narrow {s t : State} {a : Option Index} {i : Index} (h : s.IndexAgrees i) (g : s.Narrows t a)
    (hi : some i ≠ a) : t.IndexAgrees i := by
  have hn := g.node i hi
  refine ⟨by rw [hn]; exact h.sound, fun l => ?_, ?_, fun hp => ?_⟩
  · rw [hn]; exact (h.line l).narrow ((g.line l).at_ i hi)
  · rw [g.snapshot i hi, State.liveNode_congr hn]; exact h.snapshot
  · rw [State.liveNode_congr hn]; exact h.pending (g.pending i hi hp)

theorem State.NodesAgree.narrow {s t : State} (h : s.NodesAgree) (g : s.Narrows t none) : t.NodesAgree :=
  t.nodesAgree_iff.mpr ⟨fun i => (h.at_ i).narrow g nofun, fun l => (g.line l).once (h.once l)⟩

/-- An update that adds references to one index alone has only that index to account for. -/
theorem State.NodesAgree.narrow_at {s t : State} {i : Index} (h : s.NodesAgree) (g : s.Narrows t (some i))
    (hi : t.IndexAgrees i) : t.NodesAgree := by
  refine t.nodesAgree_iff.mpr ⟨fun j => ?_, fun l => (g.line l).once (h.once l)⟩
  by_cases hj : j = i
  · exact hj ▸ hi
  · exact (h.at_ j).narrow g (by simpa using hj)

/-- An update of other fields than the node table's and those that refer to it. -/
theorem State.Narrows.of_fields {s t : State} {a : Option Index} (hn : t.nodes = s.nodes) (hs : t.snapshots = s.snapshots)
    (hp : ∀ sub ∈ t.notices, sub ∈ s.notices) (ha : t.lineA = s.lineA) (hb : t.lineB = s.lineB) : s.Narrows t a :=
  ⟨fun j _ => State.node_congr hn j, fun j _ => State.snapshot_congr hs j, fun _ _ => Or.imp (hp _) (hp _),
    fun l => State.line_congr ha hb l ▸ .refl _ a⟩

theorem State.updLine_narrows {s : State} {l : LineId} {f : Line → Line} {a : Option Index}
    (h : (s.line l).Narrows (f (s.line l)) a) : s.Narrows (s.updLine l f) a := by
  refine ⟨fun j _ => by simp, fun j _ => by simp, fun j _ => by simp [State.PendingAt], fun k => ?_⟩
  by_cases hk : k = l
  · subst hk; simpa using h
  · rw [State.line_updLine_other s f hk]; exact .refl _ a

theorem State.setNode_narrows (s : State) (i : Index) (m : Option Node) : s.Narrows (s.setNode i m) (some i) :=
  ⟨fun j hj => State.node_setNode_other s m (by simpa using hj), fun j _ => by simp, fun j _ => id, fun l => by simpa using .refl _ _⟩

theorem State.setSnapshot_narrows (s : State) (i : Index) (x : Option Snapshot) : s.Narrows (s.setSnapshot i x) (some i) :=
  ⟨fun j _ => by simp, fun j hj => State.snapshot_setSnapshot_other s x (by simpa using hj), fun j _ => id,
    fun l => by simpa using .refl _ _⟩

/-- Replies and notices: nothing but what is marked becomes pending. -/
theorem Posts.narrows {s t : State} {rs : List Reply} {m : Option Subject} {a : Option Index} (h : Posts s t rs m)
    (hm : ∀ j, some j ≠ a → m ≠ some (.nodeState j) ∧ m ≠ some (.change j)) : s.Narrows t a := by
  refine ⟨fun j _ => h.core.node j, fun j _ => h.core.snapshot j, fun j hj => Or.imp ?_ ?_, fun l => h.core.line l ▸ .refl _ a⟩
  · exact fun hs => (h.pending hs).resolve_right (hm j hj).1
  · exact fun hs => (h.pending hs).resolve_right (hm j hj).2

theorem Posts.narrows_none {s t : State} {rs : List Reply} (h : Posts s t rs none) (a : Option Index) : s.Narrows t a :=
  h.narrows fun _ _ => ⟨nofun, nofun⟩

theorem State.queueReply_narrows (s : State) (n : Nat) (r : Reply) (a : Option Index) : s.Narrows (s.queueReply n r) a :=
  (s.queueReply_posts n r).1.narrows_none a

theorem State.answer_narrows (s : State) (rq : Request) (status : Status) (data : List Byte) (a : Option Index) :
    s.Narrows (s.answer rq status data) a := s.queueReply_narrows _ _ a

theorem State.walk_narrows (s : State) (a : Option Index) : s.Narrows s.walk a := s.walk_posts.1.narrows_none a

theorem State.mark_narrows (s : State) {sub : Subject} {a : Option Index}
    (h : ∀ j, some j ≠ a → sub ≠ .nodeState j ∧ sub ≠ .change j) : s.Narrows (s.mark sub) a :=
  (s.mark_posts sub).1.narrows fun j hj => by simpa using h j hj

theorem State.addTag_narrows (s : State) (t : Byte) (a : Option Index) : s.Narrows (s.addTag t) a :=
  .of_fields rfl rfl (fun _ => id) rfl rfl

theorem State.dropTag_narrows (s : State) (t : Byte) (a : Option Index) : s.Narrows (s.dropTag t) a :=
  .of_fields rfl rfl (fun _ => id) rfl rfl

theorem State.reportChange_narrows (s : State) (a : Option Index) : s.Narrows s.reportChange a :=
  .of_fields rfl rfl (fun _ => id) rfl rfl

theorem State.accept_narrows (s : State) (id : SlotId) (rq : Request) (a : Option Index) : s.Narrows (s.accept id rq) a :=
  .of_fields (by simp) (by simp) (by simp) (by simp) (by simp)

theorem State.rejectFrame_narrows (s : State) (a : Option Index) : s.Narrows s.rejectFrame a :=
  State.Narrows.trans (t := { s with linkErrors := countLinkError s.linkErrors })
    (.of_fields rfl rfl (fun _ => id) rfl rfl) (State.mark_narrows _ fun _ _ => ⟨nofun, nofun⟩)

end Sys2Proof.Machine

/-! SUPPORT. The updates that add a reference to a node entry: timers, the due list and the start of a transaction; and that the
arbiter keeps the node table in agreement (R74 to R77, R82 to R84). -/

namespace Sys2Proof.Machine

/-! ## Entries that are alike to what refers to them -/

/-- What refers to an entry cannot tell it from the other but by its mark. -/
structure Node.Alike (n m : Node) : Prop where
  config : m.config = n.config
  served : m.state.served = n.state.served
  offline : m.state = .offline ↔ n.state = .offline

theorem Node.Alike.polled {n m : Node} (h : n.Alike m) (hn : n.Polled) : m.Polled :=
  ⟨h.served ▸ hn.1, h.config ▸ hn.2⟩

theorem Node.Alike.dueNames {n m : Node} (h : n.Alike m) {k : DueKind} (hn : k.Names n) : k.Names m := by
  cases k with
  | poll => exact h.polled hn
  | recovery => exact h.offline.mpr hn

theorem Node.Alike.names {n m : Node} (h : n.Alike m) {k : TransactionKind} (hn : k.Names n) : k.Names m := by
  cases k with
  | poll => exact h.polled hn
  | demand => exact h.served.trans hn
  | recoveryProbe => exact h.offline.mpr hn
  | broadcast | scanProbe => trivial

theorem Node.Alike.entryOn {n m : Node} (h : n.Alike m) {l : LineId} {p q : Node → Prop} (hp : p n → q m)
    (hn : EntryOn (some n) l p) : EntryOn (some m) l q := by
  obtain ⟨_, ⟨⟩, hl, hpn⟩ := hn
  exact ⟨m, rfl, h.config ▸ hl, hp hpn⟩

/-- Only a transaction in flight tells alike entries apart, by their marks. -/
theorem Line.AgreesAt.alike {x : Line} {l : LineId} {i : Index} {n m : Node} (h : x.AgreesAt l i (some n)) (g : n.Alike m)
    (hf : m.mark = n.mark ∨ x.NoFlight i) : x.AgreesAt l i (some m) where
  demand hx := g.entryOn (fun hs => g.served.trans hs) (h.demand hx)
  flight k hk hi := by
    rcases hf with hf | hf
    · exact g.entryOn (fun ⟨h1, h2⟩ => ⟨hf ▸ h1, fun ha => g.names (h2 (hf ▸ ha))⟩) (h.flight k hk hi)
    · exact absurd hi (hf k hk)
  due k hk := ⟨g.entryOn g.dueNames (h.due k hk).1, (h.due k hk).2⟩
  poll hx := g.entryOn g.polled (h.poll hx)
  recovery hx := g.entryOn g.offline.mpr (h.recovery hx)
  service k hk hi hm := by
    rcases hf with hf | hf
    · obtain ⟨_, ⟨⟩, ha⟩ := hm
      exact h.service k hk hi ⟨n, rfl, hf ▸ ha⟩
    · exact absurd (TransactionKind.node_of_service hi) (hf k hk)

/-! ## Timers and due-list entries -/

/-- No transaction of the line serves the index with an outcome that will be applied. -/
def Line.NotServing (x : Line) (i : Index) (m : Option Node) : Prop :=
  ∀ k, x.flightKind = some k → k.service = some i → ¬∃ n, m = some n ∧ n.mark = .attached

theorem Line.NoFlight.notServing {x : Line} {i : Index} (h : x.NoFlight i) (m : Option Node) : x.NotServing i m :=
  fun k hk hi => absurd (TransactionKind.node_of_service hi) (h k hk)

/-- A transaction serves no index that has a timer or stands in the due list. -/
theorem Line.AgreesAt.notServing {x : Line} {l : LineId} {i : Index} {m : Option Node} (h : x.AgreesAt l i m)
    (hx : x.Untimed i → x.IsDue i) : x.NotServing i m :=
  fun k hk hi hm => (h.service k hk hi hm).2 (hx (h.service k hk hi hm).1)

theorem get_set_same {α : Type} (v : Vector α 32) (i : Index) (a : α) : (v.set i.val a i.isLt).get i = a := by
  simp [Vector.get_eq_getElem]

theorem get_set_other {α : Type} (v : Vector α 32) {i j : Index} (a : α) (h : j ≠ i) :
    (v.set i.val a i.isLt).get j = v.get j := by
  have hv : i.val ≠ j.val := fun e => h (Fin.ext e.symm)
  simp [Vector.get_eq_getElem, hv]

theorem Line.setPollTimer_narrows (x : Line) (i : Index) (w : Option Word) : x.Narrows (x.setPollTimer i w) (some i) := by
  refine ⟨fun j hj => ⟨id, fun _ h _ => h, fun _ => id, ?_, id⟩, id⟩
  simp [Line.setPollTimer, get_set_other _ _ (show j ≠ i by simpa using hj)]

theorem Line.setRecoveryTimer_narrows (x : Line) (i : Index) (w : Option Word) :
    x.Narrows (x.setRecoveryTimer i w) (some i) := by
  refine ⟨fun j hj => ⟨id, fun _ h _ => h, fun _ => id, id, ?_⟩, id⟩
  simp [Line.setRecoveryTimer, get_set_other _ _ (show j ≠ i by simpa using hj)]

theorem get_set_none (v : Vector (Option Word) 32) (i j : Index) :
    (v.set i.val none i.isLt).get j = v.get j ∨ (v.set i.val none i.isLt).get j = none := by
  by_cases h : j = i
  · exact .inr (h ▸ get_set_same v i none)
  · exact .inl (get_set_other v none h)

theorem Line.stopPollTimer_narrows (x : Line) (i : Index) (a : Option Index) : x.Narrows (x.setPollTimer i none) a :=
  .of_less (.refl _) (.inl rfl) (.refl _) (get_set_none _ i) fun _ => .inl rfl

theorem Line.stopRecoveryTimer_narrows (x : Line) (i : Index) (a : Option Index) : x.Narrows (x.setRecoveryTimer i none) a :=
  .of_less (.refl _) (.inl rfl) (.refl _) (fun _ => .inl rfl) (get_set_none _ i)

theorem Line.unschedule_narrows (x : Line) (i : Index) (a : Option Index) : x.Narrows (x.unschedule i) a :=
  .of_less (.refl _) (.inl rfl) List.filter_sublist (get_set_none _ i) (get_set_none _ i)

theorem Line.unschedule_untimed (x : Line) (i : Index) : (x.unschedule i).Untimed i :=
  ⟨get_set_same _ i none, get_set_same _ i none⟩

theorem Line.unschedule_not_isDue (x : Line) (i : Index) : ¬(x.unschedule i).IsDue i := by
  rintro ⟨d, hd, hi⟩
  simp [Line.unschedule] at hd
  exact hd.2 hi

theorem joinDue_perm (xs : List DueEntry) (e : DueEntry) : (joinDue xs e).Perm (e :: xs) := by
  induction xs with
  | nil => exact .refl _
  | cons d rest ih =>
    unfold joinDue
    split
    · exact (ih.cons d).trans (.swap e d rest)
    · exact .refl _

/-- An entry joins the due list, at any place, of a line that has none of its index. -/
theorem Line.addDue_narrows {x : Line} {e : DueEntry} {dl : List DueEntry} (hp : dl.Perm (e :: x.dueList))
    (he : ¬x.IsDue e.index) : x.Narrows { x with dueList := dl } (some e.index) := by
  refine ⟨fun j hj => ⟨id, fun _ h _ => h, ?_, id, id⟩, fun h => ?_⟩
  · rintro k ⟨d, hd, hi, hk⟩
    rcases List.mem_cons.mp (hp.mem_iff.mp hd) with rfl | hd
    · exact absurd (congrArg some hi.symm) hj
    · exact ⟨d, hd, hi, hk⟩
  · refine ((hp.map DueEntry.index).nodup_iff).mpr (List.nodup_cons.mpr ⟨fun hm => he ?_, h⟩)
    obtain ⟨d, hd, hi⟩ := List.mem_map.mp hm
    exact ⟨d, hd, hi⟩

theorem Line.AgreesAt.addDue {x : Line} {l : LineId} {e : DueEntry} {m : Option Node} {dl : List DueEntry}
    (h : x.AgreesAt l e.index m) (hp : dl.Perm (e :: x.dueList)) (hm : EntryOn m l e.kind.Names) (ht : x.Untimed e.index)
    (hs : x.NotServing e.index m) (he : ¬x.IsDue e.index) : Line.AgreesAt { x with dueList := dl } l e.index m where
  demand := h.demand
  flight := h.flight
  due k hk := by
    obtain ⟨d, hd, hi, rfl⟩ := hk
    rcases List.mem_cons.mp (hp.mem_iff.mp hd) with rfl | hd
    · exact ⟨hm, ht⟩
    · exact absurd ⟨d, hd, hi⟩ he
  poll hx := absurd ht.1 hx
  recovery hx := absurd ht.2 hx
  service k hk hi ha := absurd ha (hs k hk hi)

theorem Line.AgreesAt.setPollTimer {x : Line} {l : LineId} {i : Index} {m : Option Node} (h : x.AgreesAt l i m) (w : Option Word)
    (hm : EntryOn m l Node.Polled) (hs : x.NotServing i m) (hd : ¬x.IsDue i) : (x.setPollTimer i w).AgreesAt l i m where
  demand := h.demand
  flight := h.flight
  due k hk := absurd ((x.isDue_iff i).mpr ⟨k, hk⟩) hd
  poll _ := hm
  recovery := h.recovery
  service k hk hi ha := absurd ha (hs k hk hi)

theorem Line.AgreesAt.setRecoveryTimer {x : Line} {l : LineId} {i : Index} {m : Option Node} (h : x.AgreesAt l i m)
    (w : Option Word) (hm : EntryOn m l fun n => n.state = .offline) (hs : x.NotServing i m) (hd : ¬x.IsDue i) :
    (x.setRecoveryTimer i w).AgreesAt l i m where
  demand := h.demand
  flight := h.flight
  due k hk := absurd ((x.isDue_iff i).mpr ⟨k, hk⟩) hd
  poll := h.poll
  recovery _ := hm
  service k hk hi ha := absurd ha (hs k hk hi)

/-! ## The same of a state -/

/-- One line changes, in what it holds about one index. -/
theorem State.NodesAgree.updLine {s : State} {l : LineId} {f : Line → Line} {i : Index} (h : s.NodesAgree)
    (hn : (s.line l).Narrows (f (s.line l)) (some i)) (ha : (f (s.line l)).AgreesAt l i (s.node i)) :
    (s.updLine l f).NodesAgree := by
  refine h.narrow_at (State.updLine_narrows hn) ⟨by simpa using (h.at_ i).sound, fun k => ?_, ?_, ?_⟩
  · by_cases hk : k = l
    · subst hk; simpa using ha
    · rw [State.line_updLine_other s f hk]; simpa using (h.at_ i).line k
  · simpa [State.liveNode] using (h.at_ i).snapshot
  · simpa [State.liveNode, State.PendingAt] using (h.at_ i).pending

theorem State.NodesAgree.addDue {s : State} {l : LineId} {e : DueEntry} {g : Line → List DueEntry} (h : s.NodesAgree)
    (hp : (g (s.line l)).Perm (e :: (s.line l).dueList)) (hm : s.NodeOn l e.index e.kind.Names)
    (ht : (s.line l).Untimed e.index) (hs : (s.line l).NotServing e.index (s.node e.index)) (hd : ¬(s.line l).IsDue e.index) :
    (s.updLine l fun x => { x with dueList := g x }).NodesAgree :=
  h.updLine (Line.addDue_narrows hp hd) (((h.at_ e.index).line l).addDue hp hm ht hs hd)

theorem State.NodesAgree.makeDue {s : State} {l : LineId} {i : Index} (h : s.NodesAgree) (hm : s.NodeOn l i Node.Polled)
    (hx : (s.line l).Unscheduled i ∨ (s.line l).Untimed i ∧ ¬(s.line l).IsDue i)
    (hs : (s.line l).NotServing i (s.node i)) : (s.makeDue l i).NodesAgree := by
  obtain ⟨ht, hd⟩ := hx.elim (fun g => ⟨g.timers, g.due⟩) id
  exact h.addDue (e := { index := i, kind := .poll, due := s.partTime }) (joinDue_perm _ _) hm ht hs hd

theorem State.NodesAgree.putBackPoll {s : State} {l : LineId} {i : Index} (h : s.NodesAgree) (due : Word)
    (hm : s.NodeOn l i Node.Polled) (ht : (s.line l).Untimed i) (hd : ¬(s.line l).IsDue i)
    (hs : (s.line l).NotServing i (s.node i)) : (s.putBackPoll l i due).NodesAgree :=
  h.addDue (e := { index := i, kind := .poll, due := due }) (g := fun x => { index := i, kind := .poll, due := due } :: x.dueList)
    (.refl _) hm ht hs hd

theorem State.NodesAgree.armRecovery {s : State} {l : LineId} {i : Index} (h : s.NodesAgree)
    (hm : s.NodeOn l i fun n => n.state = .offline) (hd : ¬(s.line l).IsDue i) (hs : (s.line l).NotServing i (s.node i)) :
    (s.armRecovery l i).NodesAgree :=
  h.updLine (Line.setRecoveryTimer_narrows _ _ _) (((h.at_ i).line l).setRecoveryTimer _ hm hs hd)

/-- A timer expires and its node joins the due list (R74, R75). -/
theorem State.NodesAgree.expire {s : State} {l : LineId} {i : Index} (h : s.NodesAgree) {f : Line → Line} {e : DueEntry}
    (he : e.index = i) (hf : (s.line l).Narrows (f (s.line l)) none) (ht : (f (s.line l)).Untimed i)
    (hm : s.NodeOn l i e.kind.Names) (hx : ¬(s.line l).Untimed i) :
    (s.updLine l fun x => (f x).joinDueList e).NodesAgree := by
  subst he
  have hd : ¬(s.line l).IsDue e.index := fun hd => by
    obtain ⟨k, hk⟩ := ((s.line l).isDue_iff _).mp hd
    exact hx ((((h.at_ e.index).line l).due k hk).2)
  have hs := ((h.at_ e.index).line l).notServing fun g => absurd g hx
  have hfi := hf.at_ e.index nofun
  have hd' : ¬(f (s.line l)).IsDue e.index := fun g => hd (hfi.isDue g)
  have hs' : (f (s.line l)).NotServing e.index (s.node e.index) := fun k hk hi =>
    hs k (hfi.flight k hk (TransactionKind.node_of_service hi)) hi
  refine h.updLine (i := e.index) ?_ ((((h.at_ e.index).line l).narrow hfi).addDue (joinDue_perm _ _) hm ht hs' hd')
  exact Line.Narrows.trans ⟨fun j _ => hf.at_ j nofun, hf.once⟩ (Line.addDue_narrows (joinDue_perm _ _) hd')

/-! ## The entry at an index is replaced -/

/-- The entry is live. -/
def Node.Live (n : Node) : Prop := n.state ≠ .removing

theorem State.liveNode_iff (s : State) (i : Index) (n : Node) : s.liveNode i = some n ↔ s.node i = some n ∧ n.Live := by
  unfold State.liveNode Node.Live
  cases s.node i with
  | none => simp
  | some m =>
    by_cases hm : m.state = .removing
    · simp only [hm, if_true, reduceCtorEq, Option.some.injEq, false_iff, not_and, not_not]
      rintro rfl; exact hm
    · simp only [hm, if_false, Option.some.injEq]
      exact ⟨fun h => ⟨h, h ▸ hm⟩, fun h => h.1⟩

theorem State.liveNode_ne_none_iff (s : State) (i : Index) : s.liveNode i ≠ none ↔ ∃ n, s.node i = some n ∧ n.Live := by
  simp only [Option.ne_none_iff_exists', State.liveNode_iff]

/-- A live entry is replaced by a live one, with which the lines agree. -/
theorem State.IndexAgrees.setNode {s : State} {i : Index} {n m : Node} (h : s.IndexAgrees i) (hn : s.node i = some n)
    (hl : n.Live) (hm : m.Live) (hs : m.Sound) (hx : ∀ l, (s.line l).AgreesAt l i (some m)) :
    (s.setNode i (some m)).IndexAgrees i := by
  have live : (s.setNode i (some m)).liveNode i ≠ none := (State.liveNode_ne_none_iff _ i).mpr ⟨m, by simp, hm⟩
  have was : s.liveNode i ≠ none := (s.liveNode_ne_none_iff i).mpr ⟨n, hn, hl⟩
  refine ⟨by simpa using hs, by simpa using hx, ?_, fun _ => live⟩
  simp only [State.snapshot_setNode, live, iff_false]
  exact fun g => was (h.snapshot.mp g)

/-- The lines of an entry in use: on the others nothing refers to it. -/
theorem State.IndexAgrees.line_other {s : State} {i : Index} {n : Node} (h : s.IndexAgrees i) (hn : s.node i = some n)
    {k : LineId} (hk : k ≠ n.config.line) : (s.line k).Unscheduled i ∧ (s.line k).NoFlight i :=
  (h.line k).foreign fun m hm => by
    rw [hn] at hm
    cases hm
    exact hk.symm

/-- An entry is replaced by one alike. -/
theorem State.NodesAgree.setNode_alike {s : State} {i : Index} {n m : Node} (h : s.NodesAgree) (hn : s.node i = some n)
    (hl : n.Live) (hm : m.Live) (hs : m.Sound) (ha : n.Alike m) (hf : m.mark = n.mark ∨ ∀ l, (s.line l).NoFlight i) :
    (s.setNode i (some m)).NodesAgree := by
  refine h.narrow_at (s.setNode_narrows i _) ((h.at_ i).setNode hn hl hm hs fun l => ?_)
  exact Line.AgreesAt.alike (hn ▸ (h.at_ i).line l) ha (hf.imp_right fun g => g l)

/-! ## The start of a transaction -/

/-- A line takes up a transaction that refers to an index, having had none. -/
theorem Line.AgreesAt.takeFlight {x y : Line} {l : LineId} {i : Index} {m : Option Node} {k : TransactionKind}
    (h : x.AgreesAt l i m) (hd : y.demandQueue = x.demandQueue) (hl : y.dueList = x.dueList)
    (hp : y.pollTimers = x.pollTimers) (hr : y.recoveryTimers = x.recoveryTimers) (hk : y.flightKind = some k)
    (hm : EntryOn m l fun n => n.mark ≠ .none ∧ (n.mark = .attached → k.Names n))
    (hs : k.service = some i → x.Untimed i ∧ ¬x.IsDue i) : y.AgreesAt l i m := by
  have untimed : y.Untimed i ↔ x.Untimed i := by simp [Line.Untimed, hp, hr]
  refine ⟨?_, fun k' hk' _ => ?_, ?_, ?_, ?_, fun k' hk' hi _ => ?_⟩
  · simpa only [Line.HasDemand, hd] using h.demand
  · cases hk.symm.trans hk'; exact hm
  · simpa only [Line.IsDueAs, hl, untimed] using h.due
  · simpa only [hp] using h.poll
  · simpa only [hr] using h.recovery
  · cases hk.symm.trans hk'
    rw [untimed]
    simpa only [Line.IsDue, hl] using hs hi

theorem State.updLine_updLine (s : State) (l : LineId) (f g : Line → Line) :
    (s.updLine l f).updLine l g = s.updLine l fun x => g (f x) := by
  cases l <;> rfl

theorem State.setNode_updLine (s : State) (l : LineId) (f : Line → Line) (i : Index) (m : Option Node) :
    (s.updLine l f).setNode i m = (s.setNode i m).updLine l f := by
  cases l <;> rfl

/-- The line after `leave`, with no transaction: the state of a line between two transactions. -/
def Line.vacate (x : Line) : Line := { x with transaction := none }

theorem Line.vacate_noFlight (x : Line) (i : Index) : x.vacate.NoFlight i := fun _ hk => nomatch hk

theorem Line.vacate_narrows (x : Line) (a : Option Index) : x.Narrows x.vacate a :=
  .of_less (.refl _) (.inr fun _ hk => nomatch hk) (.refl _) (fun _ => .inl rfl) fun _ => .inl rfl

/-- The line leaves what it did, the entry takes its mark and its next sequence number, and the line takes the transaction up: the
start of a transaction in three steps that each keep the agreement. -/
theorem State.NodesAgree.startOnNode {s : State} {l : LineId} {i : Index} {n : Node} {kind : TransactionKind}
    {leave : Line → Line} (h : s.NodesAgree) (hn : s.NodeOn l i fun m => m = n) (hlive : n.Live) (op : Operation)
    (allowed : Nat) (hk : kind.node = some i) (hnames : kind.Names n) (hleave : (s.line l).Narrows (leave (s.line l)) none)
    (hs : kind.service = some i → (leave (s.line l)).Untimed i ∧ ¬(leave (s.line l)).IsDue i) :
    (s.startOnNode l i n kind op allowed leave).NodesAgree := by
  obtain ⟨n, hn, hline, rfl⟩ := hn
  let m : Node := { n with nextSequence := n.nextSequence + 1, mark := .attached }
  let s₁ := s.updLine l fun x => (leave x).vacate
  have alike : n.Alike m := ⟨rfl, rfl, .rfl⟩
  have sound := (h.at_ i).sound n hn
  have agree₁ : s₁.NodesAgree := h.narrow (State.updLine_narrows (hleave.trans (Line.vacate_narrows _ _)))
  have line₁ : s₁.line l = (leave (s.line l)).vacate := State.line_updLine_same _ _ _
  have noFlight₁ : ∀ k, (s₁.line k).NoFlight i := fun k => by
    by_cases hkl : k = l
    · rw [hkl, line₁]; exact Line.vacate_noFlight _ i
    · rw [State.line_updLine_other s _ hkl]; exact ((h.at_ i).line_other hn fun e => hkl (e.trans hline)).2
  have agree₂ : (s₁.setNode i (some m)).NodesAgree :=
    agree₁.setNode_alike (by simpa [s₁] using hn) hlive hlive
      ⟨sound.failures, sound.limit, fun hr => absurd hr hlive⟩ alike (.inr noFlight₁)
  have line₂ : (s₁.setNode i (some m)).line l = (leave (s.line l)).vacate := by rw [State.line_setNode, line₁]
  have entry₂ : EntryOn ((s₁.setNode i (some m)).node i) l fun n => n.mark ≠ .none ∧ (n.mark = .attached → kind.Names n) :=
    ⟨m, by simp, hline, nofun, fun _ => alike.names hnames⟩
  have split : s.startOnNode l i n kind op allowed leave = (s₁.setNode i (some m)).updLine l fun x => x.startAttempt
      { kind := kind, target := n.config.address, operation := op, sequence := n.nextSequence, allowed := allowed, made := 1,
        timeout := some n.config.timeout, last := none } := by
    rw [State.setNode_updLine, State.updLine_updLine]; rfl
  rw [split]
  refine agree₂.updLine (i := i) ?_ ?_
  · refine ⟨fun j hj => ⟨id, fun k hk' hj' => ?_, fun _ => id, id, id⟩, id⟩
    cases (show some kind = some k from hk')
    exact absurd (hk.symm.trans hj').symm hj
  · refine ((agree₂.at_ i).line l).takeFlight rfl rfl rfl rfl rfl entry₂ ?_
    rw [line₂]; exact hs

/-- A broadcast or scan probe refers to no node. -/
theorem State.startOnLine_narrows {s : State} {l : LineId} {kind : TransactionKind} {leave : Line → Line}
    (hleave : (s.line l).Narrows (leave (s.line l)) none) (hk : kind.node = none) (target : Byte) (op : Operation)
    (timeout : Option Byte) : s.Narrows (s.startOnLine l kind target op timeout leave) none := by
  refine State.updLine_narrows (hleave.trans ?_)
  refine .of_less (.refl _) (.inr fun k hk' => ?_) (.refl _) (fun _ => .inl rfl) fun _ => .inl rfl
  cases (show some kind = some k from hk')
  exact hk

/-! ## The arbiter -/

theorem Node.live_of_served {n : Node} (h : n.state.served = true) : n.Live := fun hr => by rw [hr] at h; cases h
theorem Node.live_of_offline {n : Node} (h : n.state = .offline) : n.Live := fun hr => by rw [hr] at h; cases h

theorem DueKind.Names.live {k : DueKind} {n : Node} (h : k.Names n) : n.Live := by
  cases k with
  | poll => exact Node.live_of_served h.1
  | recovery => exact Node.live_of_offline h

theorem Line.dropDemand_narrows {x : Line} {e : DemandEntry} {rest : List DemandEntry} (h : x.demandQueue = e :: rest)
    (n : Nat) : x.Narrows { x with demandQueue := rest, streak := n } none :=
  .of_less (h ▸ List.sublist_cons_self e rest) (.inl rfl) (.refl _) (fun _ => .inl rfl) fun _ => .inl rfl

theorem Line.dropDue_narrows {x : Line} {e : DueEntry} {rest : List DueEntry} (h : x.dueList = e :: rest)
    (n : Nat) : x.Narrows { x with dueList := rest, streak := n } none :=
  .of_less (.refl _) (.inl rfl) (h ▸ List.sublist_cons_self e rest) (fun _ => .inl rfl) fun _ => .inl rfl

theorem Line.not_isDue_of_tail {x : Line} {e : DueEntry} {rest : List DueEntry} (h : x.dueList = e :: rest) (hx : x.DueOnce)
    (n : Nat) : ¬Line.IsDue { x with dueList := rest, streak := n } e.index := by
  rintro ⟨d, hd, hi⟩
  rw [Line.DueOnce, h, List.map_cons, List.nodup_cons] at hx
  exact hx.1 (List.mem_map.mpr ⟨d, hd, hi⟩)

theorem State.NodesAgree.startDemand {s : State} {l : LineId} {e : DemandEntry} {rest : List DemandEntry} (h : s.NodesAgree)
    (hq : (s.line l).demandQueue = e :: rest) : (s.startDemand l e rest).NodesAgree := by
  unfold State.startDemand
  dsimp only
  split
  · exact h.narrow (State.startOnLine_narrows (Line.dropDemand_narrows hq _) rfl _ _ _)
  · rename_i i hi
    obtain ⟨n, hn, hl, hs⟩ := ((h.at_ i).line l).demand ⟨e, by rw [hq]; exact List.mem_cons_self, hi⟩
    rw [hn]
    exact h.startOnNode ⟨n, hn, hl, rfl⟩ (Node.live_of_served hs) _ _ rfl hs (Line.dropDemand_narrows hq _) nofun

theorem State.NodesAgree.startDue {s : State} {l : LineId} {e : DueEntry} {rest : List DueEntry} (h : s.NodesAgree)
    (hq : (s.line l).dueList = e :: rest) : (s.startDue l e rest).NodesAgree := by
  obtain ⟨⟨n, hn, hl, hs⟩, ht⟩ := ((h.at_ e.index).line l).due e.kind ⟨e, by rw [hq]; exact List.mem_cons_self, rfl, rfl⟩
  have free : (s.line l).Untimed e.index ∧ ¬Line.IsDue { s.line l with dueList := rest, streak := 0 } e.index :=
    ⟨ht, Line.not_isDue_of_tail hq (h.once l) 0⟩
  unfold State.startDue
  rw [hn]
  dsimp only
  split
  · rename_i hk
    rw [hk] at hs
    exact h.startOnNode ⟨n, hn, hl, rfl⟩ (DueKind.Names.live hs) _ _ rfl hs (Line.dropDue_narrows hq _) fun _ => free
  · rename_i hk
    rw [hk] at hs
    split
    · exact h
    · exact h.startOnNode ⟨n, hn, hl, rfl⟩ (DueKind.Names.live hs) _ _ rfl hs (Line.dropDue_narrows hq _) fun _ => free

theorem State.endScan_narrows (s : State) (l : LineId) (status : Status) (a : Option Index) : s.Narrows (s.endScan l status) a :=
  (State.updLine_narrows (.of_same rfl rfl rfl rfl rfl)).trans ((s.endScan_settles l status).posts.narrows_none a)

theorem State.startScanProbe_narrows (s : State) (l : LineId) (j : ScanJob) : s.Narrows (s.startScanProbe l j) none := by
  unfold State.startScanProbe
  dsimp only
  split
  · exact (State.updLine_narrows (.of_same rfl rfl rfl rfl rfl)).trans (State.endScan_narrows _ _ _ _)
  · exact State.startOnLine_narrows (.of_same rfl rfl rfl rfl rfl) rfl _ _ _

theorem State.NodesAgree.choose {s : State} (h : s.NodesAgree) (l : LineId) : (s.choose l).NodesAgree := by
  unfold State.choose
  split
  · exact h.startDemand ‹_›
  · split
    · exact h.startDue ‹_›
    · exact h.startDemand ‹_›
  · exact h.startDue ‹_›
  · exact h.narrow (s.startScanProbe_narrows l _)
  · exact h

theorem State.NodesAgree.askArbiter {s : State} (h : s.NodesAgree) (l : LineId) : (s.askArbiter l).NodesAgree := by
  unfold State.askArbiter
  split
  · exact h.choose l
  · exact h

end Sys2Proof.Machine

/-! SUPPORT. The delivery of outcomes keeps the node table in agreement, and no command but NODE ADD, NODE SET and a reset changes a
configuration (R14 to R21, R44, R79, R80). -/

namespace Sys2Proof.Machine

/-! ## Configurations -/

/-- Every entry in use was in use with the same configuration. -/
def State.ConfigsKept (s t : State) : Prop := ∀ i m, t.node i = some m → ∃ n, s.node i = some n ∧ m.config = n.config

theorem State.ConfigsKept.refl (s : State) : s.ConfigsKept s := fun _ m h => ⟨m, h, rfl⟩

theorem State.ConfigsKept.trans {s t u : State} (h : s.ConfigsKept t) (g : t.ConfigsKept u) : s.ConfigsKept u := by
  intro i m hm
  obtain ⟨n, hn, e⟩ := g i m hm
  obtain ⟨n', hn', e'⟩ := h i n hn
  exact ⟨n', hn', e.trans e'⟩

theorem State.ConfigsKept.of_nodes {s t : State} (h : t.nodes = s.nodes) : s.ConfigsKept t :=
  fun i m hm => ⟨m, State.node_congr h i ▸ hm, rfl⟩

theorem QueueOnly.configsKept {s t : State} (h : QueueOnly s t) : s.ConfigsKept t := .of_nodes h.nodes

theorem State.ConfigsKept.updLine (s : State) (l : LineId) (f : Line → Line) : s.ConfigsKept (s.updLine l f) :=
  .of_nodes (by simp)

theorem State.ConfigsKept.setNode {s : State} {i : Index} {n : Node} {m : Option Node} (hn : s.node i = some n)
    (hm : ∀ k, m = some k → k.config = n.config) : s.ConfigsKept (s.setNode i m) := by
  intro j k hk
  rw [State.node_setNode] at hk
  split at hk
  · rename_i hj; exact ⟨n, hj ▸ hn, hm k hk⟩
  · exact ⟨k, hk, rfl⟩

theorem State.ConfigsKept.setSome {s : State} {i : Index} {n m : Node} (hn : s.node i = some n) (hm : m.config = n.config) :
    s.ConfigsKept (s.setNode i (some m)) := .setNode hn fun _ hk => Option.some.inj hk ▸ hm

theorem State.AddressesDistinct.kept {s t : State} (h : s.AddressesDistinct) (g : s.ConfigsKept t) : t.AddressesDistinct := by
  intro i j m n hm hn hl ha
  obtain ⟨m', hm', em⟩ := g i m hm
  obtain ⟨n', hn', en⟩ := g j n hn
  exact h i j m' n' hm' hn' (by rw [← em, ← en, hl]) (by rw [← em, ← en, ha])

/-- What a command that adds no entry and sets no configuration does to the node table: laws L4 and L7 to L9 are kept. -/
structure State.KeepsNodes (s t : State) : Prop where
  configs : s.ConfigsKept t
  agree : s.NodesAgree → t.NodesAgree

theorem State.KeepsNodes.refl (s : State) : s.KeepsNodes s := ⟨.refl s, id⟩

theorem State.KeepsNodes.trans {s t u : State} (h : s.KeepsNodes t) (g : t.KeepsNodes u) : s.KeepsNodes u :=
  ⟨h.configs.trans g.configs, g.agree ∘ h.agree⟩

theorem State.Narrows.configsKept {s t : State} (h : s.Narrows t none) : s.ConfigsKept t :=
  fun i m hm => ⟨m, h.node i nofun ▸ hm, rfl⟩

theorem State.Narrows.keepsNodes {s t : State} (h : s.Narrows t none) : s.KeepsNodes t := ⟨h.configsKept, fun g => g.narrow h⟩

theorem State.startOnNode_configsKept {s : State} {i : Index} {n : Node} (hn : s.node i = some n) (l : LineId)
    (kind : TransactionKind) (op : Operation) (allowed : Nat) (leave : Line → Line) :
    s.ConfigsKept (s.startOnNode l i n kind op allowed leave) := by
  unfold State.startOnNode
  exact (State.ConfigsKept.setSome hn (by rfl)).trans (.updLine _ _ _)

theorem State.startDemand_configsKept (s : State) (l : LineId) (e : DemandEntry) (rest : List DemandEntry) :
    s.ConfigsKept (s.startDemand l e rest) := by
  unfold State.startDemand
  dsimp only
  split
  · exact .updLine _ _ _
  · split
    · exact .refl s
    · exact State.startOnNode_configsKept ‹_› _ _ _ _ _

theorem State.startDue_configsKept (s : State) (l : LineId) (e : DueEntry) (rest : List DueEntry) :
    s.ConfigsKept (s.startDue l e rest) := by
  unfold State.startDue
  dsimp only
  split
  · exact .refl s
  · split
    · exact State.startOnNode_configsKept ‹_› _ _ _ _ _
    · split
      · exact .refl s
      · exact State.startOnNode_configsKept ‹_› _ _ _ _ _

theorem State.askArbiter_configsKept (s : State) (l : LineId) : s.ConfigsKept (s.askArbiter l) := by
  unfold State.askArbiter State.choose
  split
  · split
    · exact s.startDemand_configsKept _ _ _
    · split
      · exact s.startDue_configsKept _ _ _
      · exact s.startDemand_configsKept _ _ _
    · exact s.startDue_configsKept _ _ _
    · exact (s.startScanProbe_narrows _ _).configsKept
    · exact .refl s
  · exact .refl s

theorem State.askArbiter_keepsNodes (s : State) (l : LineId) : s.KeepsNodes (s.askArbiter l) :=
  ⟨s.askArbiter_configsKept l, fun h => h.askArbiter l⟩

/-! ## Marks and purges -/

/-- A notice of a live entry may be marked. -/
theorem State.NodesAgree.mark {s : State} (h : s.NodesAgree) {sub : Subject} {i : Index}
    (hs : ∀ j, sub = .nodeState j ∨ sub = .change j → j = i) (hl : s.liveNode i ≠ none) : (s.mark sub).NodesAgree := by
  have hq := s.mark_queueOnly sub
  refine h.narrow_at (i := i) (State.mark_narrows s fun j hj => ?_) ?_
  · exact ⟨fun e => hj (congrArg some (hs j (.inl e))), fun e => hj (congrArg some (hs j (.inr e)))⟩
  · refine ⟨?_, fun k => ?_, ?_, fun _ => hq.liveNode i ▸ hl⟩
    · rw [hq.node]; exact (h.at_ i).sound
    · rw [hq.node, hq.line]; exact (h.at_ i).line k
    · rw [hq.snapshot, hq.liveNode]; exact (h.at_ i).snapshot

theorem State.NodesAgree.markNodeState {s : State} (h : s.NodesAgree) {i : Index} (hl : s.liveNode i ≠ none) :
    (s.mark (.nodeState i)).NodesAgree := h.mark (i := i) (by simp) hl

theorem State.purge_narrows (s : State) (l : LineId) (i : Index) (status : Status) (a : Option Index) :
    s.Narrows (s.purge l i status) a :=
  (State.updLine_narrows (.of_less List.filter_sublist (.inl rfl) (.refl _) (fun _ => .inl rfl) fun _ => .inl rfl)).trans
    ((s.purge_settles l i status).posts.narrows_none a)

theorem State.flush_narrows (s : State) (l : LineId) (status : Status) (a : Option Index) : s.Narrows (s.flush l status) a :=
  (State.updLine_narrows (.of_less (List.nil_sublist _) (.inl rfl) (.refl _) (fun _ => .inl rfl) fun _ => .inl rfl)).trans
    ((s.flush_settles l status).posts.narrows_none a)

/-- An entry is replaced, its schedule stops, and its queued demands are answered: what NODE DISABLE, NODE REMOVE and the entry into
OFFLINE begin with (R12, R13, R18). -/
def State.withhold (s : State) (l : LineId) (i : Index) (m : Node) (status : Status) : State :=
  ((s.setNode i (some m)).updLine l fun x => x.unschedule i).purge l i status

/-- The line of a withheld entry: no schedule, and no queued demand. -/
def Line.withheld (x : Line) (i : Index) : Line :=
  { x.unschedule i with demandQueue := x.demandQueue.filter fun e => e.node ≠ some i }

/-- What withholding an entry does, besides the replies that it queues (R117). -/
theorem State.withhold_settles (s : State) (l : LineId) (i : Index) (m : Node) (status : Status) :
    let leaving := (s.line l).demandQueue.filter fun e => e.node = some i
    Settles ((s.setNode i (some m)).updLine l fun x => x.withheld i) (s.withhold l i m status)
      (leaving.map fun e => demandReply l e.tag e.node e.operation status []) (leaving.map DemandEntry.reserved).sum
      (EntriesFit l status leaving) := by
  have h := ((s.setNode i (some m)).updLine l fun x => x.unschedule i).purge_settles l i status
  simp only [State.updLine_updLine, State.line_updLine_same, State.line_setNode] at h
  exact h

theorem State.withhold_narrows (s : State) (l : LineId) (i : Index) (m : Node) (status : Status) :
    s.Narrows (s.withhold l i m status) (some i) :=
  ((s.setNode_narrows i _).trans (State.updLine_narrows (Line.unschedule_narrows _ _ _))).trans (State.purge_narrows _ _ _ _ _)

theorem State.withhold_node (s : State) (l : LineId) (i : Index) (m : Node) (status : Status) :
    (s.withhold l i m status).node i = some m := by
  simp [(s.withhold_settles l i m status).posts.core.node]

theorem State.withhold_snapshot (s : State) (l : LineId) (i : Index) (m : Node) (status : Status) :
    (s.withhold l i m status).snapshot i = s.snapshot i := by
  simp [(s.withhold_settles l i m status).posts.core.snapshot]

theorem State.withhold_line (s : State) (l : LineId) (i : Index) (m : Node) (status : Status) :
    (s.withhold l i m status).line l = (s.line l).withheld i := by
  simp [(s.withhold_settles l i m status).posts.core.line]

theorem State.withhold_line_other (s : State) {l k : LineId} (h : k ≠ l) (i : Index) (m : Node) (status : Status) :
    (s.withhold l i m status).line k = s.line k := by
  simp [(s.withhold_settles l i m status).posts.core.line, State.line_updLine_other _ _ h]

theorem Line.withheld_unscheduled (x : Line) (i : Index) : (x.withheld i).Unscheduled i := by
  refine ⟨?_, x.unschedule_not_isDue i, x.unschedule_untimed i⟩
  rintro ⟨e, he, hi⟩
  simp [Line.withheld] at he
  exact he.2 hi

theorem Line.withheld_flightKind (x : Line) (i : Index) : (x.withheld i).flightKind = x.flightKind := rfl

/-- After an entry has been withheld, no line holds anything of it but a transaction that named it before. -/
theorem State.NodesAgree.withhold_lines {s : State} (h : s.NodesAgree) {i : Index} {n : Node} (hn : s.node i = some n)
    (m : Node) (status : Status) (k : LineId) :
    ((s.withhold n.config.line i m status).line k).Unscheduled i ∧
      ∀ f, ((s.withhold n.config.line i m status).line k).flightKind = some f → f.node = some i →
        k = n.config.line ∧ (s.line k).flightKind = some f := by
  by_cases hk : k = n.config.line
  · subst hk
    rw [State.withhold_line]
    exact ⟨Line.withheld_unscheduled _ i, fun f hf _ => ⟨rfl, Line.withheld_flightKind _ i ▸ hf⟩⟩
  · rw [State.withhold_line_other s hk]
    obtain ⟨hu, hf⟩ := (h.at_ i).line_other hn hk
    exact ⟨hu, fun f hf' hi => absurd hi (hf f hf')⟩

theorem State.withhold_configsKept {s : State} {i : Index} {n m : Node} (hn : s.node i = some n) (hm : m.config = n.config)
    (l : LineId) (status : Status) : s.ConfigsKept (s.withhold l i m status) := by
  refine (State.ConfigsKept.setSome hn hm).trans (.of_nodes ?_)
  simpa using (s.withhold_settles l i m status).posts.core.nodes

/-! ## What an outcome does to its node -/

theorem State.goOffline_eq (s : State) (l : LineId) (i : Index) (n : Node) : s.goOffline l i n =
    ((s.withhold l i { n with failures := n.failures + 1, state := .offline } .nodeDown).mark (.nodeState i)).armRecovery l i := rfl

theorem State.applyService_ok (s : State) (l : LineId) (i : Index) (n : Node) (content : List Byte) :
    s.applyService l i n (.ok content) =
      if n.state = .new then (s.setNode i (some n.answeredOk)).mark (.nodeState i) else s.setNode i (some n.answeredOk) := rfl

theorem State.applyService_exception (s : State) (l : LineId) (i : Index) (n : Node) (reason : Byte) :
    s.applyService l i n (.exception reason) =
      if n.state = .new then (s.setNode i (some (n.answeredException reason))).mark (.nodeState i)
      else s.setNode i (some (n.answeredException reason)) := rfl

theorem State.applyService_failed (s : State) (l : LineId) (i : Index) (n : Node) {o : FieldOutcome}
    (h : o = .timeout ∨ o = .corrupt) :
    s.applyService l i n o =
      if n.failures + 1 < n.config.limit.toNat then s.setNode i (some n.failedBelowLimit) else s.goOffline l i n := by
  rcases h with rfl | rfl <;> rfl

theorem State.applyService_line (s : State) (l : LineId) (i : Index) (n : Node) {o : FieldOutcome}
    (h : o = .collision ∨ o = .lineOff ∨ o = .lineFault) : s.applyService l i n o = s.setNode i (some n) := by
  rcases h with rfl | rfl | rfl <;> rfl

/-- An applied outcome of a poll or demand leaves the node served, or takes it OFFLINE at its failure limit (R17, R18, R19). -/
theorem State.applyService_cases (s : State) (l : LineId) (i : Index) {n : Node} (o : FieldOutcome)
    (hs : n.state.served = true) (hf : n.FailuresAgree) (hl : 1 ≤ n.config.limit.toNat) :
    (∃ m, m.config = n.config ∧ m.mark = n.mark ∧ m.state.served = true ∧ m.FailuresAgree ∧
      (s.applyService l i n o = s.setNode i (some m) ∨
        s.applyService l i n o = (s.setNode i (some m)).mark (.nodeState i))) ∨
    ((o = .timeout ∨ o = .corrupt) ∧ n.failures + 1 = n.config.limit.toNat ∧ s.applyService l i n o = s.goOffline l i n) := by
  have below : n.failures < n.config.limit.toNat := by
    unfold Node.FailuresAgree at hf
    cases hn : n.state <;> simp_all [NodeState.served]
    omega
  have answered : ∀ k : Node, k.config = n.config → k.mark = n.mark → k.state = .online → k.failures = 0 →
      ∃ m, m.config = n.config ∧ m.mark = n.mark ∧ m.state.served = true ∧ m.FailuresAgree ∧
        ((if n.state = .new then (s.setNode i (some k)).mark (.nodeState i) else s.setNode i (some k)) = s.setNode i (some m) ∨
          (if n.state = .new then (s.setNode i (some k)).mark (.nodeState i) else s.setNode i (some k)) =
            (s.setNode i (some m)).mark (.nodeState i)) := by
    intro k hc hm hst hk
    refine ⟨k, hc, hm, by rw [hst]; rfl, by unfold Node.FailuresAgree; rw [hst]; exact hk, ?_⟩
    by_cases hnew : n.state = .new
    · exact .inr (if_pos hnew)
    · exact .inl (if_neg hnew)
  cases o with
  | ok content => exact .inl (s.applyService_ok l i n content ▸ answered n.answeredOk rfl rfl rfl rfl)
  | exception reason => exact .inl (s.applyService_exception l i n reason ▸ answered (n.answeredException reason) rfl rfl rfl rfl)
  | collision | lineOff | lineFault => exact .inl ⟨n, rfl, rfl, hs, hf, .inl rfl⟩
  | timeout | corrupt =>
    rw [State.applyService_failed s l i n (by simp)]
    by_cases hc : n.failures + 1 < n.config.limit.toNat
    · rw [if_pos hc]
      refine .inl ⟨n.failedBelowLimit, rfl, rfl, ?_, ?_, .inl rfl⟩
      · cases hn : n.state <;> simp_all [Node.failedBelowLimit, NodeState.served]
      · cases hn : n.state <;> simp_all [Node.failedBelowLimit, NodeState.served, Node.FailuresAgree]
    · rw [if_neg hc]
      exact .inr ⟨by simp, by omega, rfl⟩

theorem State.armRecovery_configsKept (s : State) (l : LineId) (i : Index) : s.ConfigsKept (s.armRecovery l i) := .updLine _ _ _

theorem State.goOffline_configsKept {s : State} {i : Index} {n m : Node} (hn : s.node i = some n) (hm : m.config = n.config)
    (l : LineId) : s.ConfigsKept (s.goOffline l i m) := by
  rw [State.goOffline_eq]
  exact ((State.withhold_configsKept hn (m := { m with failures := m.failures + 1, state := .offline }) hm l _).trans
    (State.mark_queueOnly _ _).configsKept).trans (State.armRecovery_configsKept _ _ _)

theorem State.applyService_configsKept {s : State} {i : Index} {n m : Node} (hn : s.node i = some n)
    (hm : m.config = n.config) (l : LineId) (o : FieldOutcome) : s.ConfigsKept (s.applyService l i m o) := by
  have marked : ∀ k : Node, k.config = n.config → ∀ p : Prop, ∀ _ : Decidable p,
      s.ConfigsKept (if p then (s.setNode i (some k)).mark (.nodeState i) else s.setNode i (some k)) := by
    intro k hk p _
    split
    · exact (State.ConfigsKept.setSome hn hk).trans (State.mark_queueOnly _ _).configsKept
    · exact .setSome hn hk
  have failed : s.ConfigsKept
      (if m.failures + 1 < m.config.limit.toNat then s.setNode i (some m.failedBelowLimit) else s.goOffline l i m) := by
    split
    · exact .setSome hn hm
    · exact State.goOffline_configsKept hn hm l
  cases o with
  | ok content => exact marked m.answeredOk hm _ _
  | exception reason => exact marked (m.answeredException reason) hm _ _
  | timeout | corrupt => exact failed
  | collision | lineOff | lineFault => exact .setSome hn hm

theorem State.comeBack_configsKept {s : State} {i : Index} {n m : Node} (hn : s.node i = some n) (hm : m.config = n.config)
    (l : LineId) : s.ConfigsKept (s.comeBack l i m) := by
  have up : s.ConfigsKept (((s.setNode i (some m)).mark (.nodeState i)).updLine l fun x => x.setRecoveryTimer i none) :=
    ((State.ConfigsKept.setSome hn hm).trans (State.mark_queueOnly _ _).configsKept).trans (.updLine _ _ _)
  unfold State.comeBack
  dsimp only
  split
  · exact up.trans (.updLine _ _ _)
  · exact up

theorem State.applyProbe_configsKept {s : State} {i : Index} {n m : Node} (hn : s.node i = some n) (hm : m.config = n.config)
    (l : LineId) (o : FieldOutcome) : s.ConfigsKept (s.applyProbe l i m o) := by
  cases o with
  | ok content => exact State.comeBack_configsKept hn (m := m.answeredOk) hm l
  | exception reason => exact State.comeBack_configsKept hn (m := m.answeredException reason) hm l
  | timeout | corrupt | collision | lineOff | lineFault =>
    exact (State.ConfigsKept.setSome hn hm).trans (State.armRecovery_configsKept _ _ _)

theorem State.applyOutcome_configsKept (s : State) (l : LineId) (i : Index) (probe : Bool) (o : FieldOutcome) :
    s.ConfigsKept (s.applyOutcome l i probe o) := by
  unfold State.applyOutcome
  split
  · exact .refl s
  · rename_i n hn
    split
    · exact .refl s
    · refine .setNode hn fun k hk => ?_
      split at hk
      · cases hk
      · cases hk; rfl
    · split
      · exact State.applyProbe_configsKept hn (by rfl) l o
      · exact State.applyService_configsKept hn (by rfl) l o

theorem State.rearmPoll_configsKept (s : State) (l : LineId) (i : Index) (due : Word) : s.ConfigsKept (s.rearmPoll l i due) := by
  unfold State.rearmPoll
  split
  · exact .refl s
  · rename_i n hn
    dsimp only
    split
    · exact .updLine _ _ _
    · exact (State.ConfigsKept.updLine s l _).trans (.setSome (n := n) (by simpa using hn) (by rfl))

/-- A payload is stored, and CHANGE may be marked (R92). -/
theorem State.storeSnapshot_cases (s : State) (i : Index) (payload : List Byte) : ∃ x,
    s.storeSnapshot i payload = s.setSnapshot i (some x) ∨
      s.storeSnapshot i payload = (s.setSnapshot i (some x)).mark (.change i) := by
  unfold State.storeSnapshot
  extract_lets old changed u
  by_cases h : changed ∧ ((u.node i).map fun n => n.config.notify) = some true
  · exact ⟨_, .inr (if_pos h)⟩
  · exact ⟨_, .inl (if_neg h)⟩

theorem State.storeSnapshot_nodes (s : State) (i : Index) (payload : List Byte) : (s.storeSnapshot i payload).nodes = s.nodes := by
  obtain ⟨x, h | h⟩ := s.storeSnapshot_cases i payload <;> rw [h]
  · rfl
  · exact (State.mark_queueOnly _ _).nodes

theorem State.storeSnapshot_line (s : State) (i : Index) (payload : List Byte) (l : LineId) :
    (s.storeSnapshot i payload).line l = s.line l := by
  obtain ⟨x, h | h⟩ := s.storeSnapshot_cases i payload <;> rw [h]
  · exact State.line_setSnapshot _ _ _ _
  · rw [(State.mark_queueOnly _ _).line, State.line_setSnapshot]

theorem State.afterPoll_configsKept (s : State) (l : LineId) (i : Index) (due : Word) (o : FieldOutcome) :
    s.ConfigsKept (s.afterPoll l i due o) := by
  have unlessOffline : s.ConfigsKept (if (s.node i).map Node.state = some .offline then s else s.rearmPoll l i due) := by
    split
    · exact .refl s
    · exact s.rearmPoll_configsKept l i due
  cases o with
  | ok payload => exact (State.ConfigsKept.of_nodes (s.storeSnapshot_nodes i payload)).trans (State.rearmPoll_configsKept _ _ _ _)
  | exception | collision => exact s.rearmPoll_configsKept l i due
  | timeout | corrupt => exact unlessOffline
  | lineOff | lineFault => exact .updLine _ _ _

theorem State.scanResult_narrows (s : State) (l : LineId) (address : Byte) (o : FieldOutcome) :
    s.Narrows (s.scanResult l address o) none := by
  unfold State.scanResult
  split
  · exact .refl s none
  · rename_i j hj
    have recorded : s.Narrows (s.updLine l fun x => { x with scan := some (j.record address o) }) none :=
      State.updLine_narrows (.of_same rfl rfl rfl rfl rfl)
    dsimp only
    split
    · exact recorded
    · split
      · exact recorded.trans (State.endScan_narrows _ _ _ _)
      · exact recorded

theorem State.deliver_configsKept (s : State) (l : LineId) (t : Transaction) (o : FieldOutcome) :
    s.ConfigsKept (s.deliver l t o) := by
  unfold State.deliver
  split
  · split
    · exact (s.applyOutcome_configsKept l _ false o).trans (State.afterPoll_configsKept _ _ _ _ _)
    · exact s.applyOutcome_configsKept l _ false o
  · exact s.applyOutcome_configsKept l _ true o
  · exact ((s.dropTag_narrows _ none).trans (State.queueReply_narrows _ _ _ _)).configsKept.trans
      (State.applyOutcome_configsKept _ _ _ _ _)
  · exact ((s.dropTag_narrows _ none).trans (State.queueReply_narrows _ _ _ _)).configsKept
  · exact (s.scanResult_narrows l _ o).configsKept

/-- The attempt counters move, or nothing does (R3, R39). -/
theorem State.countAttempt_cases (s : State) (i : Index) (o : FieldOutcome) : s.countAttempt i o = s ∨
    ∃ n c, s.node i = some n ∧ n.mark = .attached ∧ s.countAttempt i o = s.setNode i (some { n with counters := c }) := by
  unfold State.countAttempt
  split
  · exact .inl rfl
  · rename_i n hn
    split
    · rename_i hm
      cases o with
      | timeout | corrupt => exact .inr ⟨n, _, hn, hm, rfl⟩
      | ok | exception | collision | lineOff | lineFault => exact .inl rfl
    · exact .inl rfl

theorem State.countAttempt_configsKept (s : State) (i : Index) (o : FieldOutcome) : s.ConfigsKept (s.countAttempt i o) := by
  rcases s.countAttempt_cases i o with h | ⟨n, c, hn, -, h⟩ <;> rw [h]
  · exact .refl s
  · exact .setSome hn rfl

end Sys2Proof.Machine

/-! SUPPORT. The end of an attempt and of a transaction keeps the node table in agreement: what the delivery of an outcome finds once
the line has given its transaction up, and what each recipient does with it (R16 to R21, R39, R41, R44, R79, R80, R92). -/

namespace Sys2Proof.Machine

/-! ## What a delivery finds -/

/-- What holds of the node that a transaction of this kind referred to, once the line has given the transaction up. -/
structure State.Receives (s : State) (l : LineId) (k : TransactionKind) : Prop where
  entry : ∀ i, k.node = some i → s.NodeOn l i fun n => n.mark ≠ .none ∧ (n.mark = .attached → k.Names n)
  noFlight : ∀ i, k.node = some i → ∀ l', (s.line l').NoFlight i
  free : ∀ i, k.service = some i → s.attached i = true → (s.line l).Untimed i ∧ ¬(s.line l).IsDue i

theorem State.NodesAgree.receives {s : State} {l : LineId} {k : TransactionKind} {f : Line → Line} (h : s.NodesAgree)
    (hk : (s.line l).flightKind = some k) (hf : (s.line l).Narrows (f (s.line l)) none)
    (hv : (f (s.line l)).flightKind = none) : (s.updLine l f).Receives l k where
  entry i hi := by
    simpa [State.NodeOn, EntryOn] using ((h.at_ i).line l).flight k hk hi
  noFlight i hi l' := by
    obtain ⟨n, hn, hl, -⟩ := ((h.at_ i).line l).flight k hk hi
    by_cases hl' : l' = l
    · rw [hl', State.line_updLine_same]
      intro k' hk'
      rw [hv] at hk'; cases hk'
    · rw [State.line_updLine_other s f hl']
      exact ((h.at_ i).line_other hn (hl ▸ hl')).2
  free i hi ha := by
    obtain ⟨ht, hd⟩ := ((h.at_ i).line l).service k hk hi ((s.attached_iff i).mp (by simpa [State.attached] using ha))
    rw [State.line_updLine_same]
    exact ⟨(hf.at_ i nofun).untimed ht, fun g => hd ((hf.at_ i nofun).isDue g)⟩

theorem QueueOnly.receives {s t : State} (h : QueueOnly s t) {l : LineId} {k : TransactionKind} (g : s.Receives l k) :
    t.Receives l k := by
  constructor
  · intro i hi; simpa only [State.NodeOn, h.node] using g.entry i hi
  · intro i hi l'; rw [h.line]; exact g.noFlight i hi l'
  · intro i hi; rw [h.attached, h.line]; exact g.free i hi

theorem State.Receives.countAttempt {s : State} {l : LineId} {k : TransactionKind} (h : s.Receives l k) (i : Index)
    (o : FieldOutcome) : (s.countAttempt i o).Receives l k := by
  rcases s.countAttempt_cases i o with e | ⟨n, c, hn, hm, e⟩ <;> rw [e]
  · exact h
  · have alike : n.Alike { n with counters := c } := ⟨rfl, rfl, .rfl⟩
    refine ⟨fun j hj => ?_, fun j hj l' => by simpa using h.noFlight j hj l', fun j hj ha => ?_⟩
    · obtain ⟨m, hm', hl, h1, h2⟩ := h.entry j hj
      by_cases hji : j = i
      · subst hji
        cases hn.symm.trans hm'
        exact ⟨{ n with counters := c }, by simp, hl, h1, fun ha => alike.names (h2 ha)⟩
      · exact ⟨m, by rw [State.node_setNode_other _ _ hji]; exact hm', hl, h1, h2⟩
    · rw [State.line_setNode]
      refine h.free j hj ((s.attached_iff j).mpr ?_)
      obtain ⟨m, hm', ha'⟩ := (State.attached_iff _ j).mp ha
      by_cases hji : j = i
      · subst hji; exact ⟨n, hn, hm⟩
      · exact ⟨m, by rw [← hm', State.node_setNode_other _ _ hji], ha'⟩

theorem State.NodesAgree.countAttempt {s : State} (h : s.NodesAgree) (i : Index) (o : FieldOutcome) :
    (s.countAttempt i o).NodesAgree := by
  rcases s.countAttempt_cases i o with e | ⟨n, c, hn, hm, e⟩ <;> rw [e]
  · exact h
  · have sound := (h.at_ i).sound n hn
    have live : n.Live := fun hr => by rw [sound.removing hr] at hm; cases hm
    exact h.setNode_alike hn live live ⟨sound.failures, sound.limit, sound.removing⟩ ⟨rfl, rfl, .rfl⟩ (.inl rfl)

theorem State.countAttempt_keepsNodes (s : State) (i : Index) (o : FieldOutcome) : s.KeepsNodes (s.countAttempt i o) :=
  ⟨s.countAttempt_configsKept i o, fun h => h.countAttempt i o⟩

/-! ## The Node Table -/

/-- A live entry is replaced by a live one, with which the lines agree. -/
theorem State.NodesAgree.setNode {s : State} {i : Index} {n m : Node} (h : s.NodesAgree) (hn : s.node i = some n) (hl : n.Live)
    (hm : m.Live) (hs : m.Sound) (hx : ∀ l, (s.line l).AgreesAt l i (some m)) : (s.setNode i (some m)).NodesAgree :=
  h.narrow_at (s.setNode_narrows i _) ((h.at_ i).setNode hn hl hm hs hx)

/-- An entry that was REMOVING is freed at the end of its transaction (R14). -/
theorem State.NodesAgree.freeRemoving {s : State} {i : Index} {n : Node} (h : s.NodesAgree) (hn : s.node i = some n)
    (hr : n.state = .removing) (hf : ∀ l, (s.line l).NoFlight i) : (s.setNode i none).NodesAgree := by
  have dead : s.liveNode i = none := by simp [State.liveNode, hn, hr]
  have dead' : (s.setNode i none).liveNode i = none := by simp [State.liveNode]
  refine h.narrow_at (s.setNode_narrows i none) ⟨by simp, fun l => ?_, ?_, fun hp => absurd dead ((h.at_ i).pending hp)⟩
  · rw [State.line_setNode]
    have unscheduled : (s.line l).Unscheduled i := Line.AgreesAt.unscheduled (hn ▸ (h.at_ i).line l) (by rw [hr]; rfl) (by simp [hr])
    exact unscheduled.agreesAt fun k hk hi => absurd hi (hf l k hk)
  · simpa [dead'] using (h.at_ i).snapshot.mpr dead

/-- An outcome that is dropped (R16, R21). -/
theorem State.NodesAgree.dropOutcome {s : State} {i : Index} {n : Node} (h : s.NodesAgree) (hn : s.node i = some n)
    (hf : ∀ l, (s.line l).NoFlight i) :
    (s.setNode i (if n.state = .removing then none else some { n with mark := .none })).NodesAgree := by
  have sound := (h.at_ i).sound n hn
  split
  · exact h.freeRemoving hn ‹_› hf
  · rename_i hr
    exact h.setNode_alike hn hr hr ⟨sound.failures, sound.limit, fun g => absurd g hr⟩ ⟨rfl, rfl, .rfl⟩ (.inr hf)

/-- An entry is withheld and stays live: nothing but a transaction refers to it afterwards. -/
theorem State.NodesAgree.withhold {s : State} {i : Index} {n m : Node} (h : s.NodesAgree) (hn : s.node i = some n)
    (hlive : n.Live) (hm : m.Live) (hs : m.Sound) (hc : m.config = n.config)
    (hf : ∀ l k, (s.line l).flightKind = some k → k.node = some i → m.mark ≠ .none ∧ (m.mark = .attached → k.Names m))
    (status : Status) : (s.withhold n.config.line i m status).NodesAgree := by
  have node_u := s.withhold_node n.config.line i m status
  have live_u : (s.withhold n.config.line i m status).liveNode i ≠ none :=
    (State.liveNode_ne_none_iff _ i).mpr ⟨m, node_u, hm⟩
  have was : s.liveNode i ≠ none := (s.liveNode_ne_none_iff i).mpr ⟨n, hn, hlive⟩
  refine h.narrow_at (s.withhold_narrows _ i m _) ⟨?_, fun l => ?_, ?_, fun _ => live_u⟩
  · rw [node_u]; rintro _ ⟨⟩; exact hs
  · obtain ⟨hu, hu'⟩ := h.withhold_lines hn m status l
    refine hu.agreesAt fun k hk hi => ?_
    obtain ⟨hl, hk'⟩ := hu' k hk hi
    exact ⟨m, node_u, by rw [hc, hl], hf l k hk' hi⟩
  · rw [State.withhold_snapshot]
    simp only [live_u, iff_false]
    exact fun g => was ((h.at_ i).snapshot.mp g)

theorem State.NodesAgree.goOffline {s : State} {i : Index} {n m : Node} (h : s.NodesAgree) (hn : s.node i = some n)
    (hc : m.config = n.config) (hlimit : m.failures + 1 = m.config.limit.toNat) (hlive : n.Live)
    (hf : ∀ l, (s.line l).NoFlight i) : (s.goOffline n.config.line i m).NodesAgree := by
  let down : Node := { m with failures := m.failures + 1, state := .offline }
  let u := s.withhold n.config.line i down .nodeDown
  have node_u : u.node i = some down := State.withhold_node _ _ _ _ _
  have live : down.Live := Node.live_of_offline rfl
  have agree_u : u.NodesAgree := h.withhold hn hlive live ⟨hlimit, hc ▸ ((h.at_ i).sound n hn).limit, nofun⟩ hc
    (fun l k hk hi => absurd hi (hf l k hk)) _
  obtain ⟨hu, hu'⟩ := h.withhold_lines hn down .nodeDown n.config.line
  have noFlight : (u.line n.config.line).NoFlight i := fun k hk hi => hf _ k (hu' k hk hi).2 hi
  have marked := u.mark_queueOnly (.nodeState i)
  rw [State.goOffline_eq]
  refine (agree_u.markNodeState ((State.liveNode_ne_none_iff u i).mpr ⟨down, node_u, live⟩)).armRecovery
    ⟨down, by rw [marked.node]; exact node_u, congrArg NodeConfig.line hc, rfl⟩ ?_ ?_
  · rw [marked.line]; exact hu.due
  · rw [marked.line]; exact noFlight.notServing _

theorem State.goOffline_node (s : State) (l : LineId) (i : Index) (n : Node) :
    (s.goOffline l i n).node i = some { n with failures := n.failures + 1, state := .offline } := by
  rw [State.goOffline_eq, State.armRecovery, State.node_updLine, (State.mark_queueOnly _ _).node]
  exact State.withhold_node _ _ _ _ _

/-- What the end of a poll needs of its node once the outcome has been applied (R79, R80): it is polled, and its service stands in no
place of R73. -/
structure State.PollEnded (s : State) (l : LineId) (i : Index) : Prop where
  polled : s.NodeOn l i Node.Polled
  untimed : (s.line l).Untimed i
  notDue : ¬(s.line l).IsDue i
  noFlight : ∀ l', (s.line l').NoFlight i

theorem State.NodesAgree.rearmPoll {s : State} {l : LineId} {i : Index} (h : s.NodesAgree) (g : s.PollEnded l i) (due : Word) :
    (s.rearmPoll l i due).NodesAgree := by
  obtain ⟨n, hn, hl, hp⟩ := g.polled
  have armed : ∀ w, (s.updLine l fun x => x.setPollTimer i (some w)).NodesAgree := fun w =>
    h.updLine (Line.setPollTimer_narrows _ i _)
      (((h.at_ i).line l).setPollTimer _ g.polled ((g.noFlight l).notServing _) g.notDue)
  have live : n.Live := Node.live_of_served hp.1
  have sound := (h.at_ i).sound n hn
  unfold State.rearmPoll
  rw [hn]
  dsimp only
  split
  · exact armed _
  · exact (armed _).setNode_alike (n := n) (by simpa using hn) live live ⟨sound.failures, sound.limit, fun hr => absurd hr live⟩
      ⟨rfl, rfl, .rfl⟩ (.inl rfl)

theorem State.NodesAgree.storeSnapshot {s : State} {i : Index} (h : s.NodesAgree) (hl : s.liveNode i ≠ none)
    (payload : List Byte) : (s.storeSnapshot i payload).NodesAgree := by
  have stored : ∀ x, (s.setSnapshot i (some x)).NodesAgree := fun x => by
    refine h.narrow_at (s.setSnapshot_narrows i _) ⟨by simpa using (h.at_ i).sound, fun l => ?_, ?_, fun _ => ?_⟩
    · simpa using (h.at_ i).line l
    · simpa [State.liveNode] using hl
    · simpa [State.liveNode] using hl
  obtain ⟨x, e | e⟩ := s.storeSnapshot_cases i payload <;> rw [e]
  · exact stored x
  · exact (stored x).mark (i := i) (by simp) (by simpa [State.liveNode] using hl)

theorem State.PollEnded.liveNode {s : State} {l : LineId} {i : Index} (g : s.PollEnded l i) : s.liveNode i ≠ none := by
  obtain ⟨n, hn, -, hp⟩ := g.polled
  exact (s.liveNode_ne_none_iff i).mpr ⟨n, hn, Node.live_of_served hp.1⟩

theorem State.PollEnded.congr {s t : State} {l : LineId} {i : Index} (g : s.PollEnded l i) (hn : t.node i = s.node i)
    (hx : ∀ l, t.line l = s.line l) : t.PollEnded l i :=
  ⟨by simpa only [State.NodeOn, hn] using g.polled, hx l ▸ g.untimed, hx l ▸ g.notDue, fun l' => hx l' ▸ g.noFlight l'⟩

theorem State.NodesAgree.afterPoll {s : State} {l : LineId} {i : Index} (h : s.NodesAgree) (g : s.PollEnded l i) (due : Word)
    (o : FieldOutcome) : (s.afterPoll l i due o).NodesAgree := by
  have unlessOffline :
      (if (s.node i).map Node.state = some .offline then s else s.rearmPoll l i due).NodesAgree := by
    split
    · exact h
    · exact h.rearmPoll g due
  cases o with
  | ok payload =>
    refine (h.storeSnapshot g.liveNode payload).rearmPoll (g.congr ?_ (s.storeSnapshot_line i payload)) due
    exact State.node_congr (s.storeSnapshot_nodes i payload) i
  | exception | collision => exact h.rearmPoll g due
  | timeout | corrupt => exact unlessOffline
  | lineOff | lineFault => exact h.putBackPoll due g.polled g.untimed g.notDue ((g.noFlight l).notServing _)

/-- An applied outcome of a poll or demand leaves a served entry on its line as it was, or takes it OFFLINE at a failure. -/
theorem State.NodesAgree.applyService {s : State} {l : LineId} {i : Index} {n : Node} (h : s.NodesAgree)
    (hn : s.node i = some n) (hl : n.config.line = l) (hs : n.state.served = true) (hf : ∀ l, (s.line l).NoFlight i)
    (o : FieldOutcome) :
    (s.applyService l i { n with mark := .none } o).NodesAgree ∧
      ((∃ m, (s.applyService l i { n with mark := .none } o).node i = some m ∧ m.config = n.config ∧ m.state.served = true ∧
          ∀ k, (s.applyService l i { n with mark := .none } o).line k = s.line k) ∨
        (o = .timeout ∨ o = .corrupt) ∧
          ∃ m, (s.applyService l i { n with mark := .none } o).node i = some m ∧ m.state = .offline) := by
  have sound := (h.at_ i).sound n hn
  have live : n.Live := Node.live_of_served hs
  subst hl
  rcases s.applyService_cases n.config.line i (n := { n with mark := .none }) o hs sound.failures sound.limit with
    ⟨m, hc, -, hms, hmf, e⟩ | ⟨ho, hlimit, e⟩
  · have notOffline : ∀ {k : Node}, k.state.served = true → k.state ≠ .offline := fun hk e => by rw [e] at hk; cases hk
    have alike : n.Alike m := ⟨hc, hms.trans hs.symm, iff_of_false (notOffline hms) (notOffline hs)⟩
    have mlive : m.Live := Node.live_of_served hms
    have agree := h.setNode_alike hn live mlive ⟨hmf, hc ▸ sound.limit, fun hr => absurd hr mlive⟩ alike (.inr hf)
    rcases e with e | e <;> rw [e]
    · exact ⟨agree, .inl ⟨m, by simp, hc, hms, fun k => by simp⟩⟩
    · have marked := (s.setNode i (some m)).mark_queueOnly (.nodeState i)
      refine ⟨agree.markNodeState ?_, .inl ⟨m, by rw [marked.node]; simp, hc, hms, fun k => by rw [marked.line]; simp⟩⟩
      exact (State.liveNode_ne_none_iff _ i).mpr ⟨m, by simp, mlive⟩
  · rw [e]
    exact ⟨h.goOffline (m := { n with mark := .none }) hn rfl hlimit live hf, .inr ⟨ho, _, State.goOffline_node _ _ _ _, rfl⟩⟩

/-- A node that answers its recovery probe: it has no timer and no due-list entry, and becomes due (R20). -/
theorem State.NodesAgree.comeBack {s : State} {l : LineId} {i : Index} {n m : Node} (h : s.NodesAgree)
    (hn : s.node i = some n) (hl : n.config.line = l) (ho : n.state = .offline) (ht : (s.line l).Untimed i)
    (hd : ¬(s.line l).IsDue i) (hf : ∀ l, (s.line l).NoFlight i) (hc : m.config = n.config) (hm : m.state = .online)
    (hmf : m.failures = 0) : (s.comeBack l i m).NodesAgree := by
  have served : m.state.served = true := by rw [hm]; rfl
  have live : m.Live := Node.live_of_served served
  have sound : m.Sound := by
    refine ⟨?_, hc ▸ ((h.at_ i).sound n hn).limit, fun hr => absurd hr live⟩
    unfold Node.FailuresAgree; rw [hm]; exact hmf
  have unscheduled : ∀ k, (s.line k).Unscheduled i := fun k => by
    by_cases hk : k = l
    · refine ⟨fun hx => ?_, hk ▸ hd, hk ▸ ht⟩
      obtain ⟨n', hn', -, hs⟩ := ((h.at_ i).line k).demand hx
      cases hn.symm.trans hn'
      rw [ho] at hs; cases hs
    · exact ((h.at_ i).line_other hn (hl ▸ hk)).1
  have agree₁ : (s.setNode i (some m)).NodesAgree :=
    h.setNode hn (Node.live_of_offline ho) live sound fun k => (unscheduled k).agreesAt fun f hf' hi => absurd hi (hf k f hf')
  have marked := (s.setNode i (some m)).mark_queueOnly (.nodeState i)
  have agree₂ := agree₁.markNodeState (i := i) ((State.liveNode_ne_none_iff _ i).mpr ⟨m, by simp, live⟩)
  have stop := Line.stopRecoveryTimer_narrows (s.line l) i none
  have agree₃ : (((s.setNode i (some m)).mark (.nodeState i)).updLine l fun x => x.setRecoveryTimer i none).NodesAgree :=
    agree₂.narrow (State.updLine_narrows (by rw [marked.line, State.line_setNode]; exact stop))
  have line₃ : (((s.setNode i (some m)).mark (.nodeState i)).updLine l fun x => x.setRecoveryTimer i none).line l =
      (s.line l).setRecoveryTimer i none := by
    rw [State.line_updLine_same, marked.line, State.line_setNode]
  unfold State.comeBack
  dsimp only
  split
  · rename_i hdesc
    refine agree₃.makeDue ⟨m, ?_, by rw [hc, hl], served, by simpa [Option.isSome_iff_ne_none] using hdesc⟩ ?_ ?_
    · rw [State.node_updLine, marked.node]; simp
    · rw [line₃]; exact .inl ((stop.at_ i nofun).unscheduled (unscheduled l))
    · rw [line₃]; exact ((stop.at_ i nofun).noFlight (hf l)).notServing _
  · exact agree₃

theorem State.NodesAgree.applyProbe {s : State} {l : LineId} {i : Index} {n : Node} (h : s.NodesAgree)
    (hn : s.node i = some n) (hl : n.config.line = l) (ho : n.state = .offline) (ht : (s.line l).Untimed i)
    (hd : ¬(s.line l).IsDue i) (hf : ∀ l, (s.line l).NoFlight i) (o : FieldOutcome) :
    (s.applyProbe l i { n with mark := .none } o).NodesAgree := by
  have sound := (h.at_ i).sound n hn
  have live : n.Live := Node.live_of_offline ho
  have unmarked : (s.setNode i (some { n with mark := .none })).NodesAgree :=
    h.setNode_alike hn live live ⟨sound.failures, sound.limit, fun hr => absurd hr live⟩ ⟨rfl, rfl, .rfl⟩ (.inr hf)
  have rearmed : ((s.setNode i (some { n with mark := .none })).armRecovery l i).NodesAgree :=
    unmarked.armRecovery ⟨{ n with mark := .none }, s.node_setNode_same i _, hl, ho⟩ (by simpa using hd)
      (by simpa using (hf l).notServing _)
  cases o with
  | ok content => exact h.comeBack hn hl ho ht hd hf (m := ({ n with mark := .none } : Node).answeredOk) rfl rfl rfl
  | exception reason =>
    exact h.comeBack hn hl ho ht hd hf (m := ({ n with mark := .none } : Node).answeredException reason) rfl rfl rfl
  | timeout | corrupt | collision | lineOff | lineFault => exact rearmed

/-! ## Deliveries -/

theorem State.applyOutcome_detached {s : State} {i : Index} {n : Node} (hn : s.node i = some n) (hm : n.mark = .detached)
    (l : LineId) (probe : Bool) (o : FieldOutcome) : s.applyOutcome l i probe o =
      s.setNode i (if n.state = .removing then none else some { n with mark := .none }) := by
  unfold State.applyOutcome
  simp only [hn, hm]

theorem State.applyOutcome_service {s : State} {i : Index} {n : Node} (hn : s.node i = some n) (hm : n.mark = .attached)
    (l : LineId) (o : FieldOutcome) : s.applyOutcome l i false o = s.applyService l i { n with mark := .none } o := by
  unfold State.applyOutcome
  simp only [hn, hm, Bool.false_eq_true, if_false]

theorem State.applyOutcome_probe {s : State} {i : Index} {n : Node} (hn : s.node i = some n) (hm : n.mark = .attached)
    (l : LineId) (o : FieldOutcome) : s.applyOutcome l i true o = s.applyProbe l i { n with mark := .none } o := by
  unfold State.applyOutcome
  simp only [hn, hm, if_true]

/-- The mark of a node whose transaction is delivered: DETACHED, or ATTACHED and the node is one that the kind may refer to. -/
theorem State.Receives.cases {s : State} {l : LineId} {k : TransactionKind} {i : Index} (h : s.Receives l k)
    (hi : k.node = some i) : ∃ n, s.node i = some n ∧ n.config.line = l ∧
      (n.mark = .detached ∨ n.mark = .attached ∧ k.Names n) := by
  obtain ⟨n, hn, hl, h1, h2⟩ := h.entry i hi
  refine ⟨n, hn, hl, ?_⟩
  cases hm : n.mark with
  | none => exact absurd hm h1
  | attached => exact .inr ⟨rfl, h2 hm⟩
  | detached => exact .inl rfl

theorem State.NodesAgree.deliver {s : State} {l : LineId} {t : Transaction} (h : s.NodesAgree) (g : s.Receives l t.kind)
    (o : FieldOutcome) : (s.deliver l t o).NodesAgree := by
  unfold State.deliver
  cases hk : t.kind with
  | poll i due =>
    rw [hk] at g
    obtain ⟨n, hn, hl, hm | ⟨hm, hp⟩⟩ := g.cases rfl
    · have hna : s.attached i = false := by simp [State.attached, hn, hm]
      simp only [hna, Bool.false_eq_true, if_false]
      rw [State.applyOutcome_detached hn hm]
      exact h.dropOutcome hn (g.noFlight i rfl)
    · have ha : s.attached i = true := (s.attached_iff i).mpr ⟨n, hn, hm⟩
      simp only [ha, if_true]
      rw [State.applyOutcome_service hn hm]
      obtain ⟨agree, ⟨m, hm', hc, hs, hx⟩ | ⟨ho, m, hm', hoff⟩⟩ := h.applyService hn hl hp.1 (g.noFlight i rfl) o
      · refine agree.afterPoll ⟨⟨m, hm', by rw [hc, hl], hs, by rw [hc]; exact hp.2⟩, ?_, ?_, fun l' => ?_⟩ due o
        · rw [hx]; exact (g.free i rfl ha).1
        · rw [hx]; exact (g.free i rfl ha).2
        · rw [hx]; exact g.noFlight i rfl l'
      · have stays : ∀ u : State, u.node i = some m → u.afterPoll l i due o = u := fun u hu => by
          rcases ho with rfl | rfl <;> simp [State.afterPoll, hu, hoff]
        rw [stays _ hm']
        exact agree
  | recoveryProbe i =>
    rw [hk] at g
    obtain ⟨n, hn, hl, hm | ⟨hm, hp⟩⟩ := g.cases rfl
    · dsimp only
      rw [State.applyOutcome_detached hn hm]
      exact h.dropOutcome hn (g.noFlight i rfl)
    · obtain ⟨ht, hd⟩ := g.free i rfl ((s.attached_iff i).mpr ⟨n, hn, hm⟩)
      dsimp only
      rw [State.applyOutcome_probe hn hm]
      exact h.applyProbe hn hl hp ht hd (g.noFlight i rfl) o
  | demand i tag reserved =>
    have replied := (s.dropTag_queueOnly tag).trans (State.queueReply_queueOnly (s.dropTag tag) reserved
      (demandReply l tag (some i) t.operation o.status o.data))
    have h' := (h.narrow (s.dropTag_narrows tag none)).narrow (State.queueReply_narrows _ reserved
      (demandReply l tag (some i) t.operation o.status o.data) none)
    have g' := replied.receives (hk ▸ g)
    obtain ⟨n, hn, hl, hm | ⟨hm, hp⟩⟩ := g'.cases rfl
    · dsimp only
      rw [State.applyOutcome_detached hn hm]
      exact h'.dropOutcome hn (g'.noFlight i rfl)
    · dsimp only
      rw [State.applyOutcome_service hn hm]
      exact (h'.applyService hn hl hp (g'.noFlight i rfl) o).1
  | broadcast tag reserved => exact h.narrow ((s.dropTag_narrows tag none).trans (State.queueReply_narrows _ _ _ _))
  | scanProbe => exact h.narrow (s.scanResult_narrows l _ o)

/-- A line gives its transaction up, and the outcome is delivered. -/
theorem State.KeepsNodes.giveUp {s : State} {l : LineId} {t : Transaction} (ht : (s.line l).transaction = some t)
    {f : Line → Line} (hf : (s.line l).Narrows (f (s.line l)) none) (hv : (f (s.line l)).transaction = none) (o : FieldOutcome) :
    s.KeepsNodes ((s.updLine l f).deliver l t o) := by
  refine ⟨(State.ConfigsKept.updLine s l f).trans (State.deliver_configsKept _ _ _ _), fun h => ?_⟩
  exact (h.narrow (State.updLine_narrows hf)).deliver
    (h.receives (by simp [Line.flightKind, ht]) hf (by simp [Line.flightKind, hv])) o

theorem State.endTransaction_keepsNodes (s : State) (l : LineId) (o : FieldOutcome) : s.KeepsNodes (s.endTransaction l o) := by
  unfold State.endTransaction
  split
  · exact .refl s
  · exact .giveUp ‹_› (Line.vacate_narrows _ none) rfl o

/-- The line that enters GUARD at the end of an attempt: it keeps its transaction for a retry, and gives it up otherwise (R39). -/
def Line.endsAttempt (x : Line) (t : Transaction) (o : FieldOutcome) (kind : GuardKind) : Line :=
  { x.enterGuard kind with
    transaction := if t.retries o then some { t with last := some o } else none
    collisionRun := collisionRunAfter x.collisionRun o }

/-- The attempt counters of the node that a transaction refers to, if it refers to one, move (R3, R39). -/
def State.countFlight (s : State) (k : TransactionKind) (o : FieldOutcome) : State :=
  match k.node with
  | some i => s.countAttempt i o
  | none => s

theorem State.countFlight_keepsNodes (s : State) (k : TransactionKind) (o : FieldOutcome) : s.KeepsNodes (s.countFlight k o) := by
  unfold State.countFlight
  split
  · exact s.countAttempt_keepsNodes _ o
  · exact .refl s

theorem State.Receives.countFlight {s : State} {l : LineId} {k : TransactionKind} (h : s.Receives l k) (o : FieldOutcome) :
    (s.countFlight k o).Receives l k := by
  unfold State.countFlight
  split
  · exact h.countAttempt _ o
  · exact h

/-- What the end of an attempt does: the line enters GUARD, the node's attempt counters move, and the outcome is delivered if no retry
follows (R39, R43, R44). -/
theorem State.endAttempt_of_some {s : State} {l : LineId} {t : Transaction} (ht : (s.line l).transaction = some t)
    (o : FieldOutcome) (kind : GuardKind) : s.endAttempt l o kind =
      if t.retries o then (s.updLine l fun x => x.endsAttempt t o kind).countFlight t.kind o
      else ((s.updLine l fun x => x.endsAttempt t o kind).countFlight t.kind o).deliver l t o := by
  unfold State.endAttempt
  rw [ht]
  rfl

theorem Line.endsAttempt_narrows {x : Line} {t : Transaction} (ht : x.transaction = some t) (o : FieldOutcome)
    (kind : GuardKind) : x.Narrows (x.endsAttempt t o kind) none := by
  refine .of_less (.refl _) ?_ (.refl _) (fun _ => .inl rfl) fun _ => .inl rfl
  cases hr : t.retries o with
  | true => exact .inl (by simp [Line.flightKind, Line.endsAttempt, hr, ht])
  | false => exact .inr fun k hk => by simp [Line.flightKind, Line.endsAttempt, hr] at hk

theorem State.endAttempt_keepsNodes (s : State) (l : LineId) (o : FieldOutcome) (kind : GuardKind) :
    s.KeepsNodes (s.endAttempt l o kind) := by
  cases ht : (s.line l).transaction with
  | none =>
    unfold State.endAttempt
    rw [ht]
    exact .refl s
  | some t =>
    have narrow := Line.endsAttempt_narrows ht o kind
    have counted : s.KeepsNodes ((s.updLine l fun x => x.endsAttempt t o kind).countFlight t.kind o) :=
      (State.updLine_narrows narrow).keepsNodes.trans (State.countFlight_keepsNodes _ _ _)
    rw [State.endAttempt_of_some ht]
    cases hr : t.retries o with
    | true => exact counted
    | false =>
      refine ⟨counted.configs.trans (State.deliver_configsKept _ _ _ _), fun h => ?_⟩
      have receives : (s.updLine l fun x => x.endsAttempt t o kind).Receives l t.kind :=
        h.receives (by simp [Line.flightKind, ht]) narrow (by simp [Line.flightKind, Line.endsAttempt, hr])
      exact (counted.agree h).deliver (receives.countFlight o) o

end Sys2Proof.Machine

/-! SUPPORT. Every event of a line, of the link, of the store and of part time, and every request that adds no entry and sets no
configuration, keeps the node table in agreement. -/

namespace Sys2Proof.Machine

/-! ## The Line Engine -/

theorem State.enterFault_keepsNodes (s : State) (l : LineId) (cause : FaultCause) : s.KeepsNodes (s.enterFault l cause) := by
  unfold State.enterFault
  extract_lets left ended flushed scanned counted
  have hleft : s.Narrows left none := State.updLine_narrows (.of_same rfl rfl rfl rfl rfl)
  have hended : left.KeepsNodes ended := left.endTransaction_keepsNodes l _
  have hflushed : ended.Narrows flushed none := ended.flush_narrows l _ none
  have hscanned : flushed.Narrows scanned none := flushed.endScan_narrows l _ none
  have hcounted : scanned.Narrows counted none := State.updLine_narrows (.of_same rfl rfl rfl rfl rfl)
  have hmarked : counted.Narrows (counted.mark (.lineState l)) none := counted.mark_narrows fun _ _ => ⟨nofun, nofun⟩
  exact (hleft.keepsNodes.trans hended).trans (((hflushed.trans hscanned).trans hcounted).trans hmarked).keepsNodes

theorem State.enterOff_keepsNodes (s : State) (l : LineId) : s.KeepsNodes (s.enterOff l) := by
  unfold State.enterOff
  extract_lets left ended flushed scanned counted
  have hleft : s.Narrows left none := State.updLine_narrows (.of_same rfl rfl rfl rfl rfl)
  have hended : left.KeepsNodes ended := left.endTransaction_keepsNodes l _
  have hflushed : ended.Narrows flushed none := ended.flush_narrows l _ none
  have hscanned : flushed.Narrows scanned none := flushed.endScan_narrows l _ none
  have hcounted : scanned.Narrows counted none := State.updLine_narrows (.of_same rfl rfl rfl rfl rfl)
  have hmarked : counted.Narrows (counted.mark (.lineState l)) none := counted.mark_narrows fun _ _ => ⟨nofun, nofun⟩
  exact (hleft.keepsNodes.trans hended).trans (((hflushed.trans hscanned).trans hcounted).trans hmarked).keepsNodes

theorem State.echoFails_keepsNodes (s : State) (l : LineId) : s.KeepsNodes (s.echoFails l) := by
  unfold State.echoFails
  extract_lets counted
  have hcounted : s.Narrows counted none := State.updLine_narrows (.of_same rfl rfl rfl rfl rfl)
  refine hcounted.keepsNodes.trans ?_
  split
  · exact State.enterFault_keepsNodes _ l _
  · exact State.endAttempt_keepsNodes _ l _ _

theorem State.sendingEnds_keepsNodes (s : State) (l : LineId) : s.KeepsNodes (s.sendingEnds l) := by
  obtain h | ⟨t, -, -, -, ⟨-, h⟩ | ⟨-, -, h⟩ | ⟨-, -, h⟩⟩ := s.sendingEnds_cases l <;> rw [h]
  · exact .refl s
  · exact s.endAttempt_keepsNodes l _ _
  · exact s.endAttempt_keepsNodes l _ _
  · exact (State.updLine_narrows (.of_same rfl rfl rfl rfl rfl)).keepsNodes

theorem State.takeEcho_keepsNodes (s : State) (l : LineId) (begun : Nat) (data : Byte) (mark good : Bool) :
    s.KeepsNodes (s.takeEcho l begun data mark good) := by
  unfold State.takeEcho
  dsimp only
  split
  · exact (State.updLine_narrows (.of_same rfl rfl rfl rfl rfl)).keepsNodes.trans (State.sendingEnds_keepsNodes _ l)
  · exact s.echoFails_keepsNodes l

theorem State.countLine_narrows (s : State) (l : LineId) (f : LineCounters → LineCounters) : s.Narrows (s.countLine l f) none :=
  State.updLine_narrows (.of_same rfl rfl rfl rfl rfl)

theorem State.setOpenFrame_narrows (s : State) (l : LineId) (frame : Option (List Byte)) :
    s.Narrows (s.setOpenFrame l frame) none := State.updLine_narrows (.of_same rfl rfl rfl rfl rfl)

theorem State.openStray_narrows (s : State) (l : LineId) (data : Byte) : s.Narrows (s.openStray l data) none :=
  (s.countLine_narrows l _).trans (State.setOpenFrame_narrows _ l _)

theorem State.takeOutside_narrows (s : State) (l : LineId) (data : Byte) (mark good : Bool) :
    s.Narrows (s.takeOutside l data mark good) none := by
  unfold State.takeOutside
  split
  · split
    · exact s.openStray_narrows l data
    · split
      · exact s.countLine_narrows l _
      · split <;> exact s.setOpenFrame_narrows l _
  · exact (s.countLine_narrows l _).trans (State.setOpenFrame_narrows _ l _)

theorem State.takeWaiting_narrows (s : State) (l : LineId) (t : Transaction) (data : Byte) (mark good : Bool) :
    s.Narrows (s.takeWaiting l t data mark good) none := by
  unfold State.takeWaiting
  split
  · exact State.updLine_narrows (.of_same rfl rfl rfl rfl rfl)
  · exact s.takeOutside_narrows l data mark good

theorem State.discardCandidate_keepsNodes (s : State) (l : LineId) : s.KeepsNodes (s.discardCandidate l) := by
  unfold State.discardCandidate
  extract_lets closed
  have hclosed : s.Narrows closed none := (s.countLine_narrows l _).trans (State.setOpenFrame_narrows _ l none)
  refine hclosed.keepsNodes.trans ?_
  split
  · exact State.endAttempt_keepsNodes _ l _ _
  · exact (State.updLine_narrows (.of_same rfl rfl rfl rfl rfl)).keepsNodes

theorem State.breakCandidate_keepsNodes (s : State) (l : LineId) : s.KeepsNodes (s.breakCandidate l) :=
  (s.setOpenFrame_narrows l none).keepsNodes.trans (State.endAttempt_keepsNodes _ l _ _)

theorem State.takeReceiving_keepsNodes (s : State) (l : LineId) (t : Transaction) (data : Byte) (mark good : Bool) :
    s.KeepsNodes (s.takeReceiving l t data mark good) := by
  unfold State.takeReceiving
  split
  · split
    · exact (s.breakCandidate_keepsNodes l).trans (State.openStray_narrows _ l data).keepsNodes
    · split
      · exact (s.setOpenFrame_narrows l _).keepsNodes
      · exact s.breakCandidate_keepsNodes l
      · split
        · exact s.discardCandidate_keepsNodes l
        · exact (s.setOpenFrame_narrows l none).keepsNodes.trans (State.endAttempt_keepsNodes _ l _ _)
  · exact (s.countLine_narrows l _).keepsNodes.trans (State.breakCandidate_keepsNodes _ l)

theorem State.takeCharacter_keepsNodes (s : State) (l : LineId) (data : Byte) (mark good : Bool) :
    s.KeepsNodes (s.takeCharacter l data mark good) := by
  unfold State.takeCharacter
  extract_lets x finished
  have hfinished : s.Narrows finished none := State.updLine_narrows (.of_same rfl rfl rfl rfl rfl)
  refine hfinished.keepsNodes.trans ?_
  split
  · exact .refl _
  · exact .refl _
  · exact .refl _
  · exact State.takeEcho_keepsNodes _ l _ data mark good
  · exact State.takeEcho_keepsNodes _ l _ data mark good
  · exact .refl _
  · exact (State.takeWaiting_narrows _ l _ data mark good).keepsNodes
  · exact State.takeReceiving_keepsNodes _ l _ data mark good
  · exact (State.takeOutside_narrows _ l data mark good).keepsNodes

/-! ## Requests and events in general -/

theorem State.answer_keepsNodes (s : State) (rq : Request) (status : Status) (data : List Byte) :
    s.KeepsNodes (s.answer rq status data) := (s.answer_narrows rq status data none).keepsNodes

/-- A request row keeps the node table if its owner's rule does. -/
theorem State.take_keepsNodes (s : State) (k : Option RequestKind) {owner : Request → State → State}
    (h : ∀ rq (u : State), u.KeepsNodes (owner rq u)) : s.KeepsNodes (s.take k owner) := by
  obtain e | ⟨id, rq, -, e⟩ := s.take_cases k owner <;> rw [e]
  · exact .refl s
  · exact (s.accept_narrows id rq none).keepsNodes.trans (h rq _)

theorem State.awake_keepsNodes (s : State) {f : State → State} (h : s.KeepsNodes (f s)) : s.KeepsNodes (s.awake f) := by
  obtain e | ⟨-, e⟩ := s.awake_cases f <;> rw [e]
  · exact .refl s
  · exact h

/-! ## Demand requests -/

theorem Line.addDemand_narrows (x : Line) (e : DemandEntry) :
    x.Narrows { x with demandQueue := x.demandQueue ++ [e] } e.node := by
  refine ⟨fun j hj => ⟨?_, fun _ h _ => h, fun _ => id, id, id⟩, id⟩
  rintro ⟨d, hd, hi⟩
  rcases List.mem_append.mp hd with hd | hd
  · exact ⟨d, hd, hi⟩
  · rw [List.mem_singleton.mp hd] at hi
    exact absurd hi.symm hj

/-- A demand of a served node of the line joins its queue. -/
theorem State.NodesAgree.addDemand {s : State} (h : s.NodesAgree) (l : LineId) (e : DemandEntry)
    (he : ∀ i, e.node = some i → s.NodeOn l i fun n => n.state.served = true) :
    (s.updLine l fun x => { x with demandQueue := x.demandQueue ++ [e] }).NodesAgree := by
  have narrows := (s.line l).addDemand_narrows e
  cases hi : e.node with
  | none => exact h.narrow (State.updLine_narrows (hi ▸ narrows))
  | some i =>
    have agree := (h.at_ i).line l
    exact h.updLine (hi ▸ narrows) ⟨fun _ => he i hi, agree.flight, agree.due, agree.poll, agree.recovery, agree.service⟩

theorem State.acceptDemand_keepsNodes (s : State) (l : LineId) (e : DemandEntry)
    (he : ∀ i, e.node = some i → s.NodeOn l i fun n => n.state.served = true) : s.KeepsNodes (s.acceptDemand l e) := by
  refine (s.addTag_narrows e.tag none).keepsNodes.trans (State.KeepsNodes.trans ⟨.updLine _ _ _, fun h => ?_⟩
    (State.askArbiter_keepsNodes _ l))
  exact h.addDemand l e fun i hi => by simpa [State.NodeOn] using he i hi

theorem Node.served_of_refusal {n : Node} (h : n.refusal = none) : n.state.served = true := by
  unfold Node.refusal at h
  cases hs : n.state <;> simp_all [NodeState.served]

theorem State.demand_keepsNodes (s : State) (rq : Request) (i : Index) (op : Operation) : s.KeepsNodes (s.demand rq i op) := by
  unfold State.demand
  dsimp only
  split
  · exact s.answer_keepsNodes rq _ _
  · split
    · exact s.answer_keepsNodes rq _ _
    · rename_i n hn
      split
      · exact s.answer_keepsNodes rq _ _
      · rename_i hr
        split
        · exact s.answer_keepsNodes rq _ _
        · refine s.acceptDemand_keepsNodes _ _ fun j hj => ?_
          cases hj
          exact ⟨n, ((s.liveNode_iff i n).mp hn).1, rfl, Node.served_of_refusal hr⟩

theorem State.broadcast_keepsNodes (s : State) (rq : Request) (l : LineId) (op : Operation) :
    s.KeepsNodes (s.broadcast rq l op) := by
  unfold State.broadcast
  split
  · exact s.answer_keepsNodes rq _ _
  · split
    · exact s.answer_keepsNodes rq _ _
    · exact s.acceptDemand_keepsNodes l _ nofun

theorem State.cancelEntry_narrows (s : State) (l : LineId) (e : DemandEntry) : s.Narrows (s.cancelEntry l e) none :=
  (State.updLine_narrows (.of_less List.eraseP_sublist (.inl rfl) (.refl _) (fun _ => .inl rfl) fun _ => .inl rfl)).trans
    ((State.replyEntry_settles _ l .cancelled e).posts.narrows_none none)

theorem State.cancel_keepsNodes (s : State) (rq : Request) (target : Byte) : s.KeepsNodes (s.cancel rq target) := by
  unfold State.cancel
  split
  · exact (s.cancelEntry_narrows .a _).keepsNodes.trans (State.answer_keepsNodes _ rq _ _)
  · exact (s.cancelEntry_narrows .b _).keepsNodes.trans (State.answer_keepsNodes _ rq _ _)
  · split <;> exact s.answer_keepsNodes rq _ _

/-! ## Jobs and the store -/

theorem State.scanStart_keepsNodes (s : State) (rq : Request) (l : LineId) (first last timeout : Byte) :
    s.KeepsNodes (s.scanStart rq l first last timeout) := by
  unfold State.scanStart
  split
  · exact s.answer_keepsNodes rq _ _
  · split
    · exact s.answer_keepsNodes rq _ _
    · split
      · exact s.answer_keepsNodes rq _ _
      · split
        · exact s.answer_keepsNodes rq _ _
        · exact ((s.addTag_narrows rq.tag none).trans (State.updLine_narrows (.of_same rfl rfl rfl rfl rfl))).keepsNodes.trans
            (State.askArbiter_keepsNodes _ l)

theorem State.scanAbort_keepsNodes (s : State) (rq : Request) (l : LineId) : s.KeepsNodes (s.scanAbort rq l) := by
  unfold State.scanAbort
  split
  · exact s.answer_keepsNodes rq _ _
  · split
    · exact (s.endScan_narrows l _ none).keepsNodes.trans (State.answer_keepsNodes _ rq _ _)
    · exact (State.updLine_narrows (.of_same rfl rfl rfl rfl rfl)).keepsNodes.trans (State.answer_keepsNodes _ rq _ _)

theorem State.setStoreSlot_narrows (s : State) (id : SlotId) (x : StoreSlot) : s.Narrows (s.setStoreSlot id x) none :=
  .of_fields (by simp) (by simp) (by simp) (by simp) (by simp)

theorem State.setSlot_narrows (s : State) (id : SlotId) (x : RequestSlot) : s.Narrows (s.setSlot id x) none :=
  .of_fields (by simp) (by simp) (by simp) (by simp) (by simp)

/-- The fields of the store job, of the configuration changes and of the current generation, which hold nothing of a node entry. -/
theorem State.Narrows.of_storeFields (s : State) (job : Option StoreJob) (changed after : Bool) (generation : Word) (phases : Nat) :
    s.Narrows { s with
      storeJob := job, configChanged := changed, changedAfterCapture := after, generation := generation, storePhases := phases }
      none := .of_fields rfl rfl (fun _ => id) rfl rfl

theorem State.endSave_narrows (s : State) (tag : Byte) (generation : Word) (good : Bool) :
    s.Narrows (s.endSave tag generation good) none := by
  unfold State.endSave
  extract_lets u v
  have first : s.Narrows u none := by
    simp only [u]
    split
    · exact .of_storeFields s _ _ _ _ _
    · exact .refl s none
  exact (first.trans ((State.dropTag_narrows u tag none).trans (State.queueReply_narrows _ _ _ none))).trans
    (.of_storeFields v _ _ _ _ _)

theorem State.startSave_narrows (s : State) (tag : Byte) : s.Narrows (s.startSave tag) none := by
  unfold State.startSave
  extract_lets newest target job tagged u slot
  have started : s.Narrows u none := (s.addTag_narrows tag none).trans (.of_storeFields _ _ _ _ _ _)
  split
  · exact started.trans (State.endSave_narrows _ _ _ _)
  · exact (started.trans (State.setStoreSlot_narrows _ _ _)).trans (.of_storeFields _ _ _ _ _ _)

theorem State.endErase_narrows (s : State) (tag : Byte) (status : Status) : s.Narrows (s.endErase tag status) none := by
  unfold State.endErase
  extract_lets u
  exact ((s.dropTag_narrows tag none).trans (State.queueReply_narrows _ _ _ none)).trans (.of_storeFields u _ _ _ _ _)

theorem State.eraseNext_narrows (s : State) (tag : Byte) (slots : List SlotId) : s.Narrows (s.eraseNext tag slots) none := by
  cases slots with
  | nil => exact s.endErase_narrows tag .ok
  | cons slot rest => exact (s.setStoreSlot_narrows slot _).trans (.of_storeFields _ _ _ _ _ _)

theorem State.storeSave_keepsNodes (s : State) (rq : Request) : s.KeepsNodes (s.storeSave rq) := by
  unfold State.storeSave
  split
  · exact s.answer_keepsNodes rq _ _
  · split
    · exact s.answer_keepsNodes rq _ _
    · exact (s.startSave_narrows rq.tag).keepsNodes

theorem State.storeErase_keepsNodes (s : State) (rq : Request) : s.KeepsNodes (s.storeErase rq) := by
  unfold State.storeErase
  split
  · exact s.answer_keepsNodes rq _ _
  · split
    · exact s.answer_keepsNodes rq _ _
    · exact ((s.addTag_narrows rq.tag none).trans (State.eraseNext_narrows _ _ _)).keepsNodes

theorem State.inPhase_narrows (s : State) (number : Nat) (phases : List SavePhase) {f : Byte → Image → SlotId → Word → State}
    (h : ∀ tag image target generation, s.Narrows (f tag image target generation) none) :
    s.Narrows (s.inPhase number phases f) none := by
  obtain e | ⟨tag, p, image, target, generation, -, -, -, e⟩ := s.inPhase_cases number phases f <;> rw [e]
  · exact .refl s none
  · exact h _ _ _ _

theorem State.inErase_narrows (s : State) (number : Nat) {f : Byte → SlotId → List SlotId → Bool → State}
    (h : ∀ tag slot rest held, s.Narrows (f tag slot rest held) none) : s.Narrows (s.inErase number f) none := by
  obtain e | ⟨tag, slot, rest, held, -, -, e⟩ := s.inErase_cases number f <;> rw [e]
  · exact .refl s none
  · exact h _ _ _ _

/-! ## The host link and the reset -/

/-- The fields of the host link, which hold nothing of a node entry. -/
theorem State.Narrows.of_linkFields (s : State) (link : LinkTransaction) (order : List SlotId) (ack : Bool) (byte : Byte)
    (out : List Message) :
    s.Narrows { s with link := link, slotOrder := order, linkAck := ack, linkByte := byte, outbound := out } none :=
  .of_fields rfl rfl (fun _ => id) rfl rfl

theorem State.acknowledge_narrows (s : State) (ack : Bool) : s.Narrows (s.acknowledge ack) none := .of_linkFields s _ _ _ _ _

theorem State.endWrite_narrows (s : State) (id : SlotId) (overLength : Bool) : s.Narrows (s.endWrite id overLength) none := by
  unfold State.endWrite
  extract_lets u
  have ended : s.Narrows u none := .of_linkFields s _ _ _ _ _
  refine ended.trans ?_
  split
  · split
    · exact u.setSlot_narrows id _
    · split
      · exact (u.setSlot_narrows id _).trans (.of_linkFields _ _ _ _ _ _)
      · exact (u.setSlot_narrows id _).trans (State.rejectFrame_narrows _ none)
  · exact .refl u none

theorem State.endRead_narrows (s : State) (message : Option Message) (sent : Nat) : s.Narrows (s.endRead message sent) none := by
  unfold State.endRead
  extract_lets u
  have ended : s.Narrows u none := .of_linkFields s _ _ _ _ _
  refine ended.trans ?_
  split
  · split
    · exact (State.Narrows.of_linkFields u _ _ _ _ _).trans (State.walk_narrows _ none)
    · exact .refl u none
  · exact .refl u none

theorem State.endLink_narrows (s : State) : s.Narrows s.endLink none := by
  unfold State.endLink
  split
  · exact s.endWrite_narrows _ _
  · exact s.endRead_narrows _ _
  · exact .refl s none

theorem State.storeByte_narrows (s : State) (id : SlotId) (data : Byte) : s.Narrows (s.storeByte id data) none := by
  unfold State.storeByte
  split
  · split
    · exact (s.setSlot_narrows id _).trans (State.acknowledge_narrows _ _)
    · exact (State.Narrows.of_linkFields s _ _ _ _ _).trans (State.acknowledge_narrows _ _)
  · exact s.acknowledge_narrows false

theorem State.beginReset_narrows (s : State) (cause : ResetCause) : s.Narrows (s.beginReset cause) none := by
  have line : ∀ x : Line, x.Narrows x.underReset none := fun x =>
    .of_less (.refl _) (.inr fun _ hk => nomatch hk) (.refl _) (fun _ => .inl rfl) fun _ => .inl rfl
  refine ⟨fun _ _ => rfl, fun _ _ => rfl, fun _ _ => id, fun l => ?_⟩
  cases l <;> exact line _

/-! ## Time events -/

/-- An event of an index is that of the entry in use there, or none. -/
theorem State.onNode_cases (s : State) (index : Nat) (f : Index → Node → State) :
    s.onNode index f = s ∨ ∃ i n, s.node i = some n ∧ s.onNode index f = f i n := by
  unfold State.onNode
  split
  · split
    · exact .inr ⟨_, _, ‹_›, rfl⟩
    · exact .inl rfl
  · exact .inl rfl

theorem State.onNode_keepsNodes (s : State) (index : Nat) {f : Index → Node → State}
    (h : ∀ i n, s.node i = some n → s.KeepsNodes (f i n)) : s.KeepsNodes (s.onNode index f) := by
  obtain e | ⟨i, n, hn, e⟩ := s.onNode_cases index f <;> rw [e]
  · exact .refl s
  · exact h i n hn

theorem State.pollTimerExpires_keepsNodes (s : State) (l : LineId) (i : Index) {due w : Word}
    (ht : (s.line l).pollTimers.get i = some w) : s.KeepsNodes (s.timerExpires l i .poll due) := by
  refine State.KeepsNodes.trans ⟨.updLine _ _ _, fun h => ?_⟩ (State.askArbiter_keepsNodes _ l)
  have hm := ((h.at_ i).line l).poll (by simp [ht])
  have noRecovery : (s.line l).recoveryTimers.get i = none := by
    by_contra hr
    obtain ⟨n, hn, -, hp⟩ := hm
    obtain ⟨n', hn', -, ho⟩ := ((h.at_ i).line l).recovery hr
    cases hn.symm.trans hn'
    rw [Node.Polled, ho] at hp; cases hp.1
  exact h.expire (f := fun x => x.setPollTimer i none) (e := { index := i, kind := .poll, due := due }) rfl
    (Line.stopPollTimer_narrows _ i none) ⟨get_set_same _ i none, noRecovery⟩ hm fun g => absurd g.1 (by simp [ht])

theorem State.recoveryTimerExpires_keepsNodes (s : State) (l : LineId) (i : Index) {due w : Word}
    (ht : (s.line l).recoveryTimers.get i = some w) : s.KeepsNodes (s.timerExpires l i .recovery due) := by
  refine State.KeepsNodes.trans ⟨.updLine _ _ _, fun h => ?_⟩ (State.askArbiter_keepsNodes _ l)
  have hm := ((h.at_ i).line l).recovery (by simp [ht])
  have noPoll : (s.line l).pollTimers.get i = none := by
    by_contra hr
    obtain ⟨n, hn, -, ho⟩ := hm
    obtain ⟨n', hn', -, hp⟩ := ((h.at_ i).line l).poll hr
    cases hn.symm.trans hn'
    rw [Node.Polled, ho] at hp; cases hp.1
  exact h.expire (f := fun x => x.setRecoveryTimer i none) (e := { index := i, kind := .recovery, due := due }) rfl
    (Line.stopRecoveryTimer_narrows _ i none) ⟨noPoll, get_set_same _ i none⟩ hm fun g => absurd g.2 (by simp [ht])

theorem DueEntry.advance_index (d : DueEntry) (i : Index) (now : Word) : (d.advance i now).index = d.index := by
  unfold DueEntry.advance; split <;> rfl
theorem DueEntry.advance_kind (d : DueEntry) (i : Index) (now : Word) : (d.advance i now).kind = d.kind := by
  unfold DueEntry.advance; split <;> rfl

theorem Line.advance_narrows (x : Line) (i : Index) (now : Word) (a : Option Index) :
    x.Narrows { x with dueList := x.dueList.map fun d => d.advance i now } a := by
  refine ⟨fun j _ => ⟨id, fun _ h _ => h, ?_, id, id⟩, ?_⟩
  · rintro k ⟨e, he, hi, hk⟩
    obtain ⟨d, hd, rfl⟩ := List.mem_map.mp he
    exact ⟨d, hd, (d.advance_index i now) ▸ hi, (d.advance_kind i now) ▸ hk⟩
  · have same : DueEntry.index ∘ (fun d => d.advance i now) = DueEntry.index := funext fun d => d.advance_index i now
    simp only [Line.DueOnce, List.map_map, same, imp_self]

/-- A record ages: the index keeps a snapshot (R93). -/
theorem State.replaceSnapshot_keepsNodes {s : State} {i : Index} {x : Snapshot} (hx : s.snapshot i = some x) (y : Snapshot) :
    s.KeepsNodes (s.setSnapshot i (some y)) := by
  refine ⟨.of_nodes rfl, fun h => ?_⟩
  have live : s.liveNode i ≠ none := fun g => by
    rw [(h.at_ i).snapshot.mpr g] at hx; cases hx
  have live' : (s.setSnapshot i (some y)).liveNode i ≠ none := by simpa [State.liveNode] using live
  refine h.narrow_at (s.setSnapshot_narrows i _) ⟨by simpa using (h.at_ i).sound, fun l => ?_, ?_, fun _ => live'⟩
  · simpa using (h.at_ i).line l
  · simp [live']

end Sys2Proof.Machine

/-! SUPPORT. The node requests and the end of a reset keep the node table in agreement, and the addresses distinct. -/

namespace Sys2Proof.Machine

/-! ## NODE ENABLE and NODE DISABLE -/

theorem State.NodesAgree.makeDueNow {s : State} {l : LineId} {i : Index} (h : s.NodesAgree) (hm : s.NodeOn l i Node.Polled)
    (hu : (s.line l).Unscheduled i) (hs : (s.line l).NotServing i (s.node i)) : (s.makeDueNow l i).NodesAgree :=
  (h.makeDue hm (.inl hu) hs).askArbiter l

theorem State.makeDueNow_configsKept (s : State) (l : LineId) (i : Index) : s.ConfigsKept (s.makeDueNow l i) :=
  (State.ConfigsKept.updLine s l _).trans (State.askArbiter_configsKept _ l)

/-- A transaction names no node that is neither served nor OFFLINE (R4, R26). -/
theorem TransactionKind.Names.served_or_offline {k : TransactionKind} {n : Node} {i : Index} (h : k.Names n)
    (hi : k.node = some i) : n.state.served = true ∨ n.state = .offline := by
  cases k with
  | poll => exact .inl h.1
  | demand => exact .inl h
  | recoveryProbe => exact .inr h
  | broadcast | scanProbe => cases hi

/-- A transaction in flight that refers to a DISABLED node has been detached from it. -/
theorem Line.AgreesAt.detached_of_disabled {x : Line} {l : LineId} {i : Index} {n : Node} (h : x.AgreesAt l i (some n))
    (hs : n.state = .disabled) {k : TransactionKind} (hk : x.flightKind = some k) (hi : k.node = some i) :
    n.config.line = l ∧ n.mark = .detached := by
  obtain ⟨_, ⟨⟩, hl, hm, hnames⟩ := h.flight k hk hi
  refine ⟨hl, ?_⟩
  cases hmark : n.mark with
  | none => exact absurd hmark hm
  | detached => rfl
  | attached =>
    have := (hnames hmark).served_or_offline hi
    simp [hs, NodeState.served] at this

theorem Line.AgreesAt.unscheduled_of_disabled {x : Line} {l : LineId} {i : Index} {n : Node} (h : x.AgreesAt l i (some n))
    (hs : n.state = .disabled) : x.Unscheduled i := h.unscheduled (by rw [hs]; rfl) (by rw [hs]; nofun)

/-- The entry that NODE ENABLE makes of a DISABLED one (R11). -/
def Node.enabled (n : Node) : Node := { n with state := .new, failures := 0 }

theorem State.NodesAgree.enable {s : State} {i : Index} {n : Node} (h : s.NodesAgree) (hn : s.node i = some n)
    (hs : n.state = .disabled) : (s.setNode i (some n.enabled)).NodesAgree := by
  have sound := (h.at_ i).sound n hn
  refine h.setNode hn (by rw [Node.Live, hs]; nofun) nofun
    ⟨show 0 < n.config.limit.toNat from sound.limit, sound.limit, nofun⟩ fun l => ?_
  have agrees : (s.line l).AgreesAt l i (some n) := hn ▸ (h.at_ i).line l
  refine (agrees.unscheduled_of_disabled hs).agreesAt fun k hk hi => ?_
  obtain ⟨hl, hm⟩ := agrees.detached_of_disabled hs hk hi
  have hm' : n.enabled.mark = .detached := hm
  exact ⟨n.enabled, rfl, hl, by rw [hm']; nofun, fun ha => by rw [hm'] at ha; cases ha⟩

theorem State.nodeEnable_keepsNodes (s : State) (rq : Request) (i : Index) : s.KeepsNodes (s.nodeEnable rq i) := by
  unfold State.nodeEnable
  cases hlive : s.liveNode i with
  | none => exact s.answer_keepsNodes rq _ _
  | some n =>
    have hn := ((s.liveNode_iff i n).mp hlive).1
    dsimp only
    by_cases hs : n.state = .disabled
    · rw [if_pos hs]
      let a := s.setNode i (some n.enabled)
      let b := a.mark (.nodeState i)
      let d := b.reportChange.answer rq .ok [byteOf i]
      have marked : QueueOnly a b := a.mark_queueOnly _
      have answered := b.reportChange.answer_queueOnly rq .ok [byteOf i]
      have line_d : ∀ l, d.line l = s.line l := fun l => by
        rw [answered.line, State.line_reportChange, marked.line, State.line_setNode]
      have node_d : d.node i = some n.enabled := by
        rw [answered.node, State.node_reportChange, marked.node, State.node_setNode_same]
      have keeps_d : s.KeepsNodes d := by
        have live_a : a.liveNode i ≠ none := (State.liveNode_ne_none_iff a i).mpr ⟨n.enabled, by simp [a], nofun⟩
        have keeps_b : s.KeepsNodes b := ⟨(State.ConfigsKept.setSome hn (by rfl)).trans marked.configsKept,
          fun h => (h.enable hn hs).markNodeState live_a⟩
        exact keeps_b.trans ((b.reportChange_narrows none).trans (State.answer_narrows _ rq _ _ none)).keepsNodes
      show s.KeepsNodes (if n.config.descriptor.isSome then d.makeDueNow n.config.line i else d)
      split
      · rename_i hdesc
        refine ⟨keeps_d.configs.trans (State.makeDueNow_configsKept d _ i), fun h => ?_⟩
        have agrees : (s.line n.config.line).AgreesAt n.config.line i (some n) := hn ▸ (h.at_ i).line _
        refine (keeps_d.agree h).makeDueNow ⟨n.enabled, node_d, rfl, rfl, Option.isSome_iff_ne_none.mp hdesc⟩ ?_ ?_
        · rw [line_d]; exact agrees.unscheduled_of_disabled hs
        · rw [line_d, node_d]
          rintro k hk hi ⟨_, ⟨⟩, ha⟩
          have hm := (agrees.detached_of_disabled hs hk (TransactionKind.node_of_service hi)).2
          cases hm.symm.trans ha
      · exact keeps_d
    · rw [if_neg hs]
      exact s.answer_keepsNodes rq _ _

theorem TransactionMark.detach_of_ne_none {m : TransactionMark} (h : m ≠ .none) : m.detach = .detached := by
  cases m with
  | none => exact absurd rfl h
  | attached | detached => rfl

/-- The entry that NODE DISABLE makes of a live one (R12). -/
def Node.disable (n : Node) : Node := { n with state := .disabled, failures := 0, mark := n.mark.detach }

theorem State.nodeDisable_eq (s : State) (rq : Request) {i : Index} {n : Node} (hlive : s.liveNode i = some n)
    (hs : n.state ≠ .disabled) : s.nodeDisable rq i =
      (((s.withhold n.config.line i n.disable .nodeDisabled).mark (.nodeState i)).reportChange).answer rq .ok [byteOf i] := by
  unfold State.nodeDisable
  rw [hlive]
  exact if_neg hs

theorem State.nodeDisable_keepsNodes (s : State) (rq : Request) (i : Index) : s.KeepsNodes (s.nodeDisable rq i) := by
  cases hlive : s.liveNode i with
  | none =>
    unfold State.nodeDisable
    rw [hlive]
    exact s.answer_keepsNodes rq _ _
  | some n =>
    obtain ⟨hn, live⟩ := (s.liveNode_iff i n).mp hlive
    by_cases hs : n.state = .disabled
    · unfold State.nodeDisable
      rw [hlive]
      dsimp only
      rw [if_pos hs]
      exact s.answer_keepsNodes rq _ _
    · rw [State.nodeDisable_eq s rq hlive hs]
      let u := s.withhold n.config.line i n.disable .nodeDisabled
      have withheld : s.KeepsNodes u := by
        refine ⟨State.withhold_configsKept hn (m := n.disable) rfl _ _, fun h => ?_⟩
        have sound : n.disable.Sound := ⟨rfl, ((h.at_ i).sound n hn).limit, nofun⟩
        refine h.withhold hn live (m := n.disable) nofun sound rfl (fun l k hk hi => ?_) _
        obtain ⟨_, hn', -, hm, -⟩ := ((h.at_ i).line l).flight k hk hi
        cases hn.symm.trans hn'
        have hd : n.disable.mark = .detached := TransactionMark.detach_of_ne_none hm
        rw [hd]
        exact ⟨nofun, nofun⟩
      have marked : u.KeepsNodes (u.mark (.nodeState i)) := ⟨(u.mark_queueOnly _).configsKept, fun h =>
        h.markNodeState ((State.liveNode_ne_none_iff u i).mpr ⟨n.disable, State.withhold_node _ _ _ _ _, nofun⟩)⟩
      exact (withheld.trans marked).trans
        ((State.reportChange_narrows _ none).trans (State.answer_narrows _ rq _ _ none)).keepsNodes

/-! ## NODE REMOVE -/

/-- The entry that NODE REMOVE makes of a live one (R13). -/
def Node.remove (n : Node) : Node := { n with state := .removing, mark := n.mark.detach }

/-- The steps of NODE REMOVE up to its reply (R13). -/
def State.removed (s : State) (rq : Request) (i : Index) (n : Node) : State :=
  ((((s.withhold n.config.line i n.remove .nodeRemoved).withdraw i).setSnapshot i none).reportChange).answer rq .ok [byteOf i]

theorem State.nodeRemove_eq (s : State) (rq : Request) {i : Index} {n : Node} (hlive : s.liveNode i = some n) :
    s.nodeRemove rq i = if n.mark = .none then (s.removed rq i n).setNode i none else s.removed rq i n := by
  unfold State.nodeRemove
  rw [hlive]
  rfl

theorem State.withdraw_narrows (s : State) (i : Index) (a : Option Index) : s.Narrows (s.withdraw i) a :=
  State.Narrows.trans (t := { s with notices := s.notices.filter fun sub => sub ≠ Subject.nodeState i && sub ≠ Subject.change i })
    (.of_fields rfl rfl (fun _ h => List.mem_of_mem_filter h) rfl rfl) (State.walk_narrows _ a)

theorem State.withdraw_not_pendingAt (s : State) (i : Index) : ¬(s.withdraw i).PendingAt i := by
  have sub := (State.walk_posts
    { s with notices := s.notices.filter fun sub => sub ≠ Subject.nodeState i && sub ≠ Subject.change i }).2.1.subset
  rintro (h | h)
  · have := List.mem_filter.mp (sub h)
    simp at this
  · have := List.mem_filter.mp (sub h)
    simp at this

theorem State.removed_narrows (s : State) (rq : Request) (i : Index) (n : Node) :
    s.Narrows (s.removed rq i n) (some i) :=
  ((((s.withhold_narrows _ i _ _).trans (State.withdraw_narrows _ i _)).trans (State.setSnapshot_narrows _ i _)).trans
    (State.reportChange_narrows _ _)).trans (State.answer_narrows _ rq _ _ _)

/-- What NODE REMOVE leaves of the index: the entry, no snapshot, no pending notice, and the lines of a withheld entry. -/
theorem State.removed_spec (s : State) (rq : Request) (i : Index) (n : Node) :
    (s.removed rq i n).node i = some n.remove ∧ (s.removed rq i n).snapshot i = none ∧ ¬(s.removed rq i n).PendingAt i ∧
      ∀ l, (s.removed rq i n).line l = (s.withhold n.config.line i n.remove .nodeRemoved).line l := by
  let u := s.withhold n.config.line i n.remove .nodeRemoved
  have withdrawn : QueueOnly u (u.withdraw i) := u.withdraw_queueOnly i
  have answered := (((u.withdraw i).setSnapshot i none).reportChange).answer_queueOnly rq .ok [byteOf i]
  have posted := ((((u.withdraw i).setSnapshot i none).reportChange).queueReply_posts rq.reservation
    { kind := rq.kind + 0x80, tag := rq.tag, status := .ok, data := [byteOf i] }).2.1.subset
  refine ⟨?_, ?_, fun hp => u.withdraw_not_pendingAt i (hp.imp (@posted _) (@posted _)), fun l => ?_⟩
  · rw [State.removed, answered.node, State.node_reportChange, State.node_setSnapshot, withdrawn.node]
    exact State.withhold_node _ _ _ _ _
  · rw [State.removed, answered.snapshot, State.snapshot_reportChange, State.snapshot_setSnapshot_same]
  · rw [State.removed, answered.line, State.line_reportChange, State.line_setSnapshot, withdrawn.line]

/-- An index that nothing refers to any more but its transaction: free, or REMOVING with the transaction detached. -/
theorem State.IndexAgrees.of_gone {t : State} {i : Index} (hn : ∀ n, t.node i = some n → n.Sound ∧ n.state = .removing)
    (hs : t.snapshot i = none) (hp : ¬t.PendingAt i) (hl : ∀ l, (t.line l).Unscheduled i)
    (hf : ∀ l k, (t.line l).flightKind = some k → k.node = some i → EntryOn (t.node i) l fun n => n.mark = .detached) :
    t.IndexAgrees i := by
  have dead : t.liveNode i = none := by
    unfold State.liveNode
    split
    · exact if_pos (hn _ ‹_›).2
    · rfl
  refine ⟨fun n h => (hn n h).1, fun l => (hl l).agreesAt fun k hk hi => ?_, by simp [hs, dead], fun h => absurd h hp⟩
  obtain ⟨n, hn', hl', hm⟩ := hf l k hk hi
  exact ⟨n, hn', hl', by rw [hm]; nofun, fun ha => by rw [hm] at ha; cases ha⟩

theorem State.removed_configsKept {s : State} {i : Index} {n : Node} (hn : s.node i = some n) (rq : Request) :
    s.ConfigsKept (s.removed rq i n) :=
  (State.withhold_configsKept hn (m := n.remove) rfl n.config.line .nodeRemoved).trans
    (((State.withdraw_queueOnly _ i).configsKept.trans (.of_nodes (by simp))).trans
      ((State.reportChange_narrows _ none).trans (State.answer_narrows _ rq .ok [byteOf i] none)).configsKept)

theorem State.nodeRemove_keepsNodes (s : State) (rq : Request) (i : Index) : s.KeepsNodes (s.nodeRemove rq i) := by
  cases hlive : s.liveNode i with
  | none =>
    unfold State.nodeRemove
    rw [hlive]
    exact s.answer_keepsNodes rq _ _
  | some n =>
    have hn := ((s.liveNode_iff i n).mp hlive).1
    obtain ⟨node_t, snapshot_t, pending_t, line_t⟩ := s.removed_spec rq i n
    have flight_t : s.NodesAgree → ∀ l k, ((s.removed rq i n).line l).flightKind = some k → k.node = some i →
        n.config.line = l ∧ n.mark ≠ .none := fun h l k hk hi => by
      rw [line_t] at hk
      obtain ⟨rfl, hk'⟩ := (h.withhold_lines hn n.remove .nodeRemoved l).2 k hk hi
      obtain ⟨_, hn', hl, hm, -⟩ := ((h.at_ i).line _).flight k hk' hi
      cases hn.symm.trans hn'
      exact ⟨hl, hm⟩
    have lines_t : s.NodesAgree → ∀ l, ((s.removed rq i n).line l).Unscheduled i := fun h l => by
      rw [line_t]; exact (h.withhold_lines hn n.remove .nodeRemoved l).1
    rw [State.nodeRemove_eq s rq hlive]
    split
    · rename_i hm
      refine ⟨(State.removed_configsKept hn rq).trans (.setNode node_t nofun), fun h => ?_⟩
      refine h.narrow_at ((s.removed_narrows rq i n).trans (State.setNode_narrows _ i none)) (.of_gone ?_ ?_ ?_ ?_ ?_)
      · simp
      · simpa using snapshot_t
      · exact pending_t
      · simpa using lines_t h
      · exact fun l k hk hi => absurd hm (flight_t h l k (by simpa using hk) hi).2
    · rename_i hm
      refine ⟨State.removed_configsKept hn rq, fun h => ?_⟩
      have sound : n.remove.Sound := ⟨trivial, ((h.at_ i).sound n hn).limit, fun _ => TransactionMark.detach_of_ne_none hm⟩
      refine h.narrow_at (s.removed_narrows rq i n) (.of_gone ?_ snapshot_t pending_t (lines_t h) fun l k hk hi => ?_)
      · rw [node_t]; rintro _ ⟨⟩; exact ⟨sound, rfl⟩
      · exact ⟨n.remove, node_t, (flight_t h l k hk hi).1, TransactionMark.detach_of_ne_none hm⟩

/-! ## NODE ADD and NODE SET -/

/-- A body of NODE ADD holds a configuration in range (R8). -/
theorem nodeBody_inRange {body : List Byte} {c : NodeConfig} {disabled : Bool} (h : nodeBody body = some (c, disabled)) :
    c.inRange = true := by
  unfold nodeBody at h
  split at h
  · split at h
    · simp only [Option.bind_eq_some_iff] at h
      obtain ⟨line, -, ⟨descriptor, rest⟩, -, t, -, h⟩ := h
      dsimp only at h
      split at h
      · cases h; assumption
      · cases h
    · cases h
  · cases h

theorem NodeConfig.one_le_limit {c : NodeConfig} (h : c.inRange = true) : 1 ≤ c.limit.toNat := by
  simp only [NodeConfig.inRange, Machine.inRange, Bool.and_eq_true, decide_eq_true_eq] at h
  exact h.2.1

theorem State.mem_allIndices (i : Index) : i ∈ allIndices := List.mem_finRange i

theorem State.addressHeld_eq_true_iff (s : State) (l : LineId) (address : Byte) :
    s.addressHeld l address = true ↔ ∃ j m, s.node j = some m ∧ m.config.line = l ∧ m.config.address = address := by
  simp only [State.addressHeld, List.any_eq_true, State.mem_allIndices, true_and]
  refine exists_congr fun j => ?_
  cases s.node j with
  | none => simp
  | some m => simp

theorem State.heldByAnother_eq_true_iff (s : State) (i : Index) (l : LineId) (address : Byte) :
    s.heldByAnother i l address = true ↔
      ∃ j m, j ≠ i ∧ s.node j = some m ∧ m.config.line = l ∧ m.config.address = address := by
  simp only [State.heldByAnother, List.any_eq_true, State.mem_allIndices, true_and]
  refine exists_congr fun j => ?_
  cases s.node j with
  | none => simp
  | some m => simp [and_assoc]

/-- The entry that NODE ADD puts into use (R9). -/
def NodeConfig.added (c : NodeConfig) (startDisabled : Bool) : Node :=
  { config := c, state := if startDisabled then .disabled else .new }

/-- An entry at a free index and its snapshot. -/
theorem State.NodesAgree.addEntry {s : State} {i : Index} {m : Node} (h : s.NodesAgree) (hi : s.node i = none) (hm : m.Sound)
    (hl : m.Live) (x : Snapshot) : ((s.setNode i (some m)).setSnapshot i (some x)).NodesAgree := by
  have live : ((s.setNode i (some m)).setSnapshot i (some x)).liveNode i ≠ none :=
    (State.liveNode_ne_none_iff _ i).mpr ⟨m, by simp, hl⟩
  refine h.narrow_at ((s.setNode_narrows i _).trans (State.setSnapshot_narrows _ i _))
    ⟨by simpa using hm, fun l => ?_, by simp [live], fun _ => live⟩
  obtain ⟨hu, hf⟩ := ((h.at_ i).line l).foreign fun n hn => by rw [hi] at hn; cases hn
  simpa using hu.agreesAt fun k hk hki => absurd hki (hf k hk)

/-- The steps of NODE ADD at a free index, up to its reply (R9). -/
def State.added (s : State) (rq : Request) (c : NodeConfig) (startDisabled : Bool) (i : Index) : State :=
  (((s.setNode i (some (c.added startDisabled))).setSnapshot i (some {})).reportChange).answer rq .ok [byteOf i]

theorem State.nodeAdd_of_held {s : State} {c : NodeConfig} (h : s.addressHeld c.line c.address = true) (rq : Request)
    (startDisabled : Bool) : s.nodeAdd rq c startDisabled = s.answer rq .duplicate [] := by
  unfold State.nodeAdd
  rw [if_pos h]

theorem State.nodeAdd_of_full {s : State} {c : NodeConfig} (h : s.addressHeld c.line c.address = false)
    (hi : s.freeIndex = none) (rq : Request) (startDisabled : Bool) :
    s.nodeAdd rq c startDisabled = s.answer rq .tableFull [] := by
  unfold State.nodeAdd
  simp only [h, hi, Bool.false_eq_true, if_false]

theorem State.nodeAdd_of_free {s : State} {c : NodeConfig} {i : Index} (h : s.addressHeld c.line c.address = false)
    (hi : s.freeIndex = some i) (rq : Request) (startDisabled : Bool) :
    s.nodeAdd rq c startDisabled = if ¬startDisabled ∧ c.descriptor.isSome then
      (s.added rq c startDisabled i).makeDueNow c.line i else s.added rq c startDisabled i := by
  unfold State.nodeAdd
  simp only [h, hi, Bool.false_eq_true, if_false]
  rfl

theorem State.node_of_freeIndex {s : State} {i : Index} (h : s.freeIndex = some i) : s.node i = none := by
  simpa using List.find?_some h

theorem State.added_line (s : State) (rq : Request) (c : NodeConfig) (startDisabled : Bool) (i : Index) (l : LineId) :
    (s.added rq c startDisabled i).line l = s.line l := by
  rw [State.added, (State.answer_queueOnly _ _ _ _).line]
  simp

theorem State.added_node (s : State) (rq : Request) (c : NodeConfig) (startDisabled : Bool) (i j : Index) :
    (s.added rq c startDisabled i).node j = if j = i then some (c.added startDisabled) else s.node j := by
  rw [State.added, (State.answer_queueOnly _ _ _ _).node, ← State.node_setNode]
  simp

theorem State.NodesAgree.nodeAdd {s : State} (h : s.NodesAgree) (rq : Request) {c : NodeConfig} (hc : c.inRange = true)
    (startDisabled : Bool) : (s.nodeAdd rq c startDisabled).NodesAgree := by
  cases held : s.addressHeld c.line c.address with
  | true =>
    rw [State.nodeAdd_of_held held]
    exact h.narrow (s.answer_narrows rq _ _ none)
  | false =>
    cases hi : s.freeIndex with
    | none =>
      rw [State.nodeAdd_of_full held hi]
      exact h.narrow (s.answer_narrows rq _ _ none)
    | some i =>
      have limit := NodeConfig.one_le_limit hc
      have free := State.node_of_freeIndex hi
      have sound : (c.added startDisabled).Sound := by
        cases startDisabled
        · exact ⟨show 0 < c.limit.toNat from limit, limit, nofun⟩
        · exact ⟨rfl, limit, nofun⟩
      have live : (c.added startDisabled).Live := by cases startDisabled <;> nofun
      have added : (s.added rq c startDisabled i).NodesAgree := (h.addEntry free sound live {}).narrow
        ((State.reportChange_narrows _ none).trans (State.answer_narrows _ rq _ _ none))
      rw [State.nodeAdd_of_free held hi]
      split
      · rename_i hd
        obtain ⟨hu, hf⟩ := ((h.at_ i).line c.line).foreign fun n hn => by rw [free] at hn; cases hn
        have started : startDisabled = false := by simpa using hd.1
        refine added.makeDueNow ⟨c.added startDisabled, by rw [State.added_node, if_pos rfl], rfl, by rw [started]; rfl,
          Option.isSome_iff_ne_none.mp hd.2⟩ ?_ ?_
        · rw [State.added_line]; exact hu
        · rw [State.added_line]; exact hf.notServing _
      · exact added

/-- The entries after an entry has been put at an index: that one and the others. -/
theorem State.AddressesDistinct.setEntry {s t : State} {i : Index} {m : Node} (h : s.AddressesDistinct)
    (ht : ∀ j, t.node j = if j = i then some m else s.node j)
    (hm : ∀ j n, j ≠ i → s.node j = some n → ¬(n.config.line = m.config.line ∧ n.config.address = m.config.address)) :
    t.AddressesDistinct := by
  intro j k a b ha hb hl hadd
  rw [ht] at ha hb
  by_cases hj : j = i <;> by_cases hk : k = i
  · rw [hj, hk]
  · rw [if_pos hj] at ha
    rw [if_neg hk] at hb
    cases ha
    exact absurd ⟨hl.symm, hadd.symm⟩ (hm k b hk hb)
  · rw [if_neg hj] at ha
    rw [if_pos hk] at hb
    cases hb
    exact absurd ⟨hl, hadd⟩ (hm j a hj ha)
  · rw [if_neg hj] at ha
    rw [if_neg hk] at hb
    exact h j k a b ha hb hl hadd

theorem State.AddressesDistinct.nodeAdd {s : State} (h : s.AddressesDistinct) (rq : Request) (c : NodeConfig)
    (startDisabled : Bool) : (s.nodeAdd rq c startDisabled).AddressesDistinct := by
  cases held : s.addressHeld c.line c.address with
  | true =>
    rw [State.nodeAdd_of_held held]
    exact h.kept (s.answer_narrows rq _ _ none).configsKept
  | false =>
    cases hi : s.freeIndex with
    | none =>
      rw [State.nodeAdd_of_full held hi]
      exact h.kept (s.answer_narrows rq _ _ none).configsKept
    | some i =>
      have added : (s.added rq c startDisabled i).AddressesDistinct := by
        refine h.setEntry (s.added_node rq c startDisabled i) fun j n _ hn hln => ?_
        have := (s.addressHeld_eq_true_iff c.line c.address).mpr ⟨j, n, hn, hln⟩
        rw [held] at this; cases this
      rw [State.nodeAdd_of_free held hi]
      split
      · exact added.kept (State.makeDueNow_configsKept _ _ _)
      · exact added

/-- The steps of a NODE SET that is not refused, up to its reply (R10). -/
def State.configured (s : State) (i : Index) (n : Node) (c : NodeConfig) : State :=
  if c = n.config then s.setNode i (some { n with config := c }) else (s.setNode i (some { n with config := c })).reportChange

/-- NODE SET is refused, or it replaces the configuration of a DISABLED entry without a transaction (R10). -/
theorem State.nodeSet_cases (s : State) (rq : Request) (i : Index) (c : NodeConfig) :
    (∃ status data, s.nodeSet rq i c = s.answer rq status data) ∨
      ∃ n, s.node i = some n ∧ n.state = .disabled ∧ n.mark = .none ∧ s.heldByAnother i c.line c.address = false ∧
        s.nodeSet rq i c = (s.configured i n c).answer rq .ok [byteOf i] := by
  unfold State.nodeSet
  cases hlive : s.liveNode i with
  | none => exact .inl ⟨_, _, rfl⟩
  | some n =>
    dsimp only
    by_cases hs : n.state = .disabled
    · rw [if_neg (not_not.mpr hs)]
      by_cases hm : n.mark = .none
      · rw [if_neg (not_not.mpr hm)]
        cases held : s.heldByAnother i c.line c.address with
        | true => exact .inl ⟨_, _, if_pos rfl⟩
        | false => exact .inr ⟨n, ((s.liveNode_iff i n).mp hlive).1, hs, hm, rfl, if_neg nofun⟩
      · exact .inl ⟨_, _, if_pos hm⟩
    · exact .inl ⟨_, _, if_pos hs⟩

theorem State.configured_narrows (s : State) (i : Index) (n : Node) (c : NodeConfig) :
    (s.setNode i (some { n with config := c })).Narrows (s.configured i n c) none := by
  unfold State.configured
  split
  · exact .refl _ none
  · exact State.reportChange_narrows _ none

theorem State.NodesAgree.nodeSet {s : State} (h : s.NodesAgree) (rq : Request) (i : Index) {c : NodeConfig}
    (hc : c.inRange = true) : (s.nodeSet rq i c).NodesAgree := by
  obtain ⟨status, data, e⟩ | ⟨n, hn, hs, hm, -, e⟩ := s.nodeSet_cases rq i c <;> rw [e]
  · exact h.narrow (s.answer_narrows rq _ _ none)
  · have sound := (h.at_ i).sound n hn
    have live : n.Live := by rw [Node.Live, hs]; nofun
    refine State.NodesAgree.narrow ?_ ((s.configured_narrows i n c).trans (State.answer_narrows _ rq _ _ none))
    refine h.setNode hn live live ⟨?_, NodeConfig.one_le_limit hc, fun hr => absurd hr live⟩ fun l => ?_
    · have := sound.failures
      simp only [Node.FailuresAgree, hs] at this ⊢
      exact this
    · have agrees : (s.line l).AgreesAt l i (some n) := hn ▸ (h.at_ i).line l
      refine (agrees.unscheduled_of_disabled hs).agreesAt fun k hk hi => ?_
      have := (agrees.detached_of_disabled hs hk hi).2
      rw [hm] at this; cases this

theorem State.AddressesDistinct.nodeSet {s : State} (h : s.AddressesDistinct) (rq : Request) (i : Index) (c : NodeConfig) :
    (s.nodeSet rq i c).AddressesDistinct := by
  obtain ⟨status, data, e⟩ | ⟨n, hn, -, -, held, e⟩ := s.nodeSet_cases rq i c <;> rw [e]
  · exact h.kept (s.answer_narrows rq _ _ none).configsKept
  · refine State.AddressesDistinct.kept ?_ ((s.configured_narrows i n c).trans (State.answer_narrows _ rq _ _ none)).configsKept
    refine h.setEntry (fun j => State.node_setNode s i j _) fun j m hj hm hlm => ?_
    have := (s.heldByAnother_eq_true_iff i c.line c.address).mpr ⟨j, m, hj, hm, hlm⟩
    rw [held] at this; cases this

/-! ## NODE INFO -/

theorem State.nodeInfo_keepsNodes (s : State) (rq : Request) (i : Index) (clear : Bool) : s.KeepsNodes (s.nodeInfo rq i clear) := by
  unfold State.nodeInfo
  cases hlive : s.liveNode i with
  | none => exact s.answer_keepsNodes rq _ _
  | some n =>
    obtain ⟨hn, live⟩ := (s.liveNode_iff i n).mp hlive
    have cleared : s.KeepsNodes (s.setNode i (some { n with counters := {} })) := by
      refine ⟨.setSome hn rfl, fun h => ?_⟩
      have sound := (h.at_ i).sound n hn
      exact h.setNode_alike hn live live ⟨sound.failures, sound.limit, fun hr => absurd hr live⟩ ⟨rfl, rfl, .rfl⟩ (.inl rfl)
    dsimp only
    split
    · exact cleared.trans (State.answer_keepsNodes _ rq _ _)
    · exact s.answer_keepsNodes rq _ _

theorem State.readSnapshot_keepsNodes (s : State) (rq : Request) (i : Index) : s.KeepsNodes (s.readSnapshot rq i) := by
  unfold State.readSnapshot
  split <;> exact s.answer_keepsNodes rq _ _

end Sys2Proof.Machine

/-! SUPPORT. The end of a reset (R24, R89, R143, R161), and the laws L4 and L7 to L9 for every step. -/

namespace Sys2Proof.Machine

/-! ## The table that an image loads -/

theorem table_fold_some {β : Type} (g : NodeRecord → β) (rs : List NodeRecord) (v : Vector (Option β) 32) (i : Index) (b : β)
    (h : (rs.foldl (fun v r => v.set r.index.val (some (g r)) r.index.isLt) v).get i = some b) :
    v.get i = some b ∨ ∃ r ∈ rs, r.index = i ∧ b = g r := by
  induction rs generalizing v with
  | nil => exact .inl h
  | cons r rs ih =>
    rcases ih _ h with h | ⟨q, hq, hi⟩
    · by_cases hr : i = r.index
      · rw [hr, get_set_same] at h
        exact .inr ⟨r, List.mem_cons_self, hr.symm, (Option.some.inj h).symm⟩
      · exact .inl (get_set_other v _ hr ▸ h)
    · exact .inr ⟨q, List.mem_cons_of_mem _ hq, hi⟩

theorem table_fold_none {β : Type} (g : NodeRecord → β) (rs : List NodeRecord) (v : Vector (Option β) 32) (i : Index) :
    (rs.foldl (fun v r => v.set r.index.val (some (g r)) r.index.isLt) v).get i = none ↔
      v.get i = none ∧ ∀ r ∈ rs, r.index ≠ i := by
  induction rs generalizing v with
  | nil => simp
  | cons r rs ih =>
    rw [List.foldl_cons, ih]
    by_cases hr : i = r.index
    · simp [hr, get_set_same]
    · simp [get_set_other v _ hr, Ne.symm hr]

theorem get_replicate_none {β : Type} (i : Index) : (Vector.replicate 32 (none : Option β)).get i = none := by
  simp [Vector.get_eq_getElem]

theorem Image.table_some {x : Image} {i : Index} {n : Node} (h : x.table.get i = some n) :
    ∃ r ∈ x.nodes, r.index = i ∧ n = r.node :=
  (table_fold_some NodeRecord.node x.nodes _ i n h).resolve_left (by rw [get_replicate_none]; nofun)

/-- The snapshot table has a snapshot exactly where the node table has an entry (R91). -/
theorem Image.snapshotTable_none_iff (x : Image) (i : Index) : x.snapshotTable.get i = none ↔ x.table.get i = none := by
  rw [Image.snapshotTable, Image.table, table_fold_none (fun _ => ({} : Snapshot)), table_fold_none NodeRecord.node]
  simp only [get_replicate_none]

/-- The image that a reset loads is in range: VALID, or empty (R134, R143). -/
theorem State.loadedImage_inRange (s : State) : s.loadedImage.inRange = true := by
  unfold State.loadedImage
  cases h : s.newestSlot with
  | none => exact show Image.empty.inRange = true by decide
  | some id =>
    have valid : (s.storeSlot id).valid = true := by
      have hm := List.mem_of_getLast? h
      unfold State.validSlots at hm
      cases h0 : s.storeSlot0.valid <;> cases h1 : s.storeSlot1.valid <;> cases id <;>
        simp_all [State.storeSlot]
    simp only [StoreSlot.valid, Bool.and_eq_true] at valid
    exact valid.2

theorem Image.inRange_records {x : Image} (h : x.inRange = true) :
    (∀ r ∈ x.nodes, r.config.inRange = true) ∧ (x.nodes.map fun r => (r.config.line, r.config.address)).Nodup := by
  simp only [Image.inRange, Bool.and_eq_true, List.all_eq_true, decide_eq_true_eq] at h
  exact ⟨h.1.1.2, h.2⟩

theorem Image.table_distinct {x : Image} (h : x.inRange = true) {i j : Index} {m n : Node} (hi : x.table.get i = some m)
    (hj : x.table.get j = some n) (hl : m.config.line = n.config.line) (ha : m.config.address = n.config.address) : i = j := by
  obtain ⟨r, hr, rfl, rfl⟩ := Image.table_some hi
  obtain ⟨q, hq, rfl, rfl⟩ := Image.table_some hj
  have same : r = q := List.inj_on_of_nodup_map (Image.inRange_records h).2 hr hq (Prod.ext hl ha)
  rw [same]

theorem NodeRecord.node_sound {r : NodeRecord} (h : r.config.inRange = true) : r.node.Sound := by
  have limit : 1 ≤ r.node.config.limit.toNat := NodeConfig.one_le_limit h
  unfold NodeRecord.node at *
  cases r.disabled
  · exact ⟨limit, limit, nofun⟩
  · exact ⟨rfl, limit, nofun⟩

theorem NodeRecord.node_live (r : NodeRecord) : r.node.Live := by
  unfold NodeRecord.node Node.Live
  cases r.disabled <;> nofun

/-! ## The lines after a reset -/

/-- No line refers to the index. -/
def State.Unreferenced (s : State) (i : Index) : Prop := ∀ l, (s.line l).Unscheduled i ∧ (s.line l).NoFlight i

theorem Line.afterReset_unscheduled (settings : LineSettings) (enabled pinMark : Bool) (i : Index) :
    (Line.afterReset settings enabled pinMark).Unscheduled i where
  demand := fun ⟨_, h, _⟩ => nomatch h
  due := fun ⟨_, h, _⟩ => nomatch h
  timers := ⟨get_replicate_none i, get_replicate_none i⟩

theorem State.loaded_line (s : State) (cause : ResetCause) (strap : BitVec 2) (l : LineId) :
    ∃ settings enabled pinMark, (s.loaded cause strap).line l = Line.afterReset settings enabled pinMark := by
  cases l <;> exact ⟨_, _, _, rfl⟩

theorem State.loaded_unreferenced (s : State) (cause : ResetCause) (strap : BitVec 2) (i : Index) :
    (s.loaded cause strap).Unreferenced i := fun l => by
  obtain ⟨settings, enabled, pinMark, e⟩ := s.loaded_line cause strap l
  rw [e]
  exact ⟨Line.afterReset_unscheduled settings enabled pinMark i, fun _ hk => nomatch hk⟩

theorem State.loaded_agrees (s : State) (cause : ResetCause) (strap : BitVec 2) : (s.loaded cause strap).NodesAgree := by
  refine (State.nodesAgree_iff _).mpr ⟨fun i => ⟨fun n hn => ?_, fun l => ?_, ?_, fun hp => ?_⟩, fun l => ?_⟩
  · obtain ⟨r, hr, -, rfl⟩ := Image.table_some hn
    exact NodeRecord.node_sound ((Image.inRange_records s.loadedImage_inRange).1 r hr)
  · obtain ⟨hu, hf⟩ := s.loaded_unreferenced cause strap i l
    exact hu.agreesAt fun k hk hi => absurd hi (hf k hk)
  · refine (Image.snapshotTable_none_iff s.loadedImage i).trans ?_
    show (s.loaded cause strap).node i = none ↔ (s.loaded cause strap).liveNode i = none
    cases hn : (s.loaded cause strap).node i with
    | none => simp [State.liveNode, hn]
    | some n =>
      obtain ⟨r, -, -, rfl⟩ := Image.table_some hn
      have := (State.liveNode_iff _ i _).mpr ⟨hn, r.node_live⟩
      simp [this]
  · rcases hp with hp | hp <;> cases hp
  · obtain ⟨settings, enabled, pinMark, e⟩ := s.loaded_line cause strap l
    rw [e]
    exact List.nodup_nil

/-- A NEW entry with a descriptor becomes due, and no other index is touched (R89). -/
theorem State.makeDueIfNew_spec (s : State) (i : Index) : s.Unreferenced i →
    (s.NodesAgree → (s.makeDueIfNew i).NodesAgree) ∧ s.Narrows (s.makeDueIfNew i) (some i) := by
  intro hu
  unfold State.makeDueIfNew
  split
  · rename_i n hn
    split
    · rename_i hd
      obtain ⟨hs, hf⟩ := hu n.config.line
      refine ⟨fun h => h.makeDue ⟨n, hn, rfl, by rw [hd.1]; rfl, Option.isSome_iff_ne_none.mp hd.2⟩ (.inl hs) (hf.notServing _), ?_⟩
      exact State.updLine_narrows (Line.addDue_narrows (joinDue_perm _ _) hs.due)
    · exact ⟨id, .refl _ _⟩
  · exact ⟨id, .refl _ _⟩

theorem State.Narrows.unreferenced {s t : State} {a : Option Index} (h : s.Narrows t a) {j : Index} (hj : some j ≠ a)
    (hu : s.Unreferenced j) : t.Unreferenced j :=
  fun l => ⟨((h.line l).at_ j hj).unscheduled (hu l).1, ((h.line l).at_ j hj).noFlight (hu l).2⟩

theorem State.NodesAgree.makeAllDue (is : List Index) (hd : is.Nodup) {s : State} (h : s.NodesAgree)
    (hu : ∀ i ∈ is, s.Unreferenced i) : (is.foldl State.makeDueIfNew s).NodesAgree := by
  induction is generalizing s with
  | nil => exact h
  | cons i is ih =>
    obtain ⟨hi, hd⟩ := List.nodup_cons.mp hd
    obtain ⟨agree, narrows⟩ := s.makeDueIfNew_spec i (hu i List.mem_cons_self)
    refine ih hd (agree h) fun j hj => narrows.unreferenced (fun e => hi ?_) (hu j (List.mem_cons_of_mem _ hj))
    cases e; exact hj

theorem State.makeDueIfNew_configsKept (s : State) (i : Index) : s.ConfigsKept (s.makeDueIfNew i) := by
  unfold State.makeDueIfNew
  split
  · split
    · exact .updLine _ _ _
    · exact .refl s
  · exact .refl s

theorem State.makeAllDue_configsKept (is : List Index) (s : State) : s.ConfigsKept (is.foldl State.makeDueIfNew s) := by
  induction is generalizing s with
  | nil => exact .refl s
  | cons i is ih => exact (s.makeDueIfNew_configsKept i).trans (ih _)

theorem State.comeOut_agrees (s : State) (cause : ResetCause) (strap : BitVec 2) : (s.comeOut cause strap).NodesAgree :=
  (((s.loaded_agrees cause strap).makeAllDue _ (List.nodup_finRange 32)
    fun i _ => s.loaded_unreferenced cause strap i).askArbiter .a).askArbiter .b

theorem State.comeOut_distinct (s : State) (cause : ResetCause) (strap : BitVec 2) :
    (s.comeOut cause strap).AddressesDistinct := by
  have loaded : (s.loaded cause strap).AddressesDistinct := fun i j m n hi hj hl ha =>
    Image.table_distinct s.loadedImage_inRange hi hj hl ha
  exact loaded.kept (((State.makeAllDue_configsKept _ _).trans (State.askArbiter_configsKept _ _)).trans
    (State.askArbiter_configsKept _ _))

/-! ## The line requests -/

theorem State.setLine_narrows {s : State} {l : LineId} {x : Line} {a : Option Index} (h : (s.line l).Narrows x a) :
    s.Narrows (s.setLine l x) a := State.updLine_narrows (f := fun _ => x) h

theorem State.lineSet_keepsNodes (s : State) (rq : Request) (l : LineId) (settings : LineSettings) :
    s.KeepsNodes (s.lineSet rq l settings) := by
  unfold State.lineSet
  extract_lets x set_ reported
  have hset : s.Narrows set_ none := State.setLine_narrows (.of_same rfl rfl rfl rfl rfl)
  have hreported : set_.Narrows reported none := by
    simp only [reported]
    split
    · exact .refl set_ none
    · exact set_.reportChange_narrows none
  split
  · exact ((hset.trans hreported).trans (State.answer_narrows _ rq _ _ none)).keepsNodes
  · exact s.answer_keepsNodes rq _ _

theorem State.lineEnable_keepsNodes (s : State) (rq : Request) (l : LineId) : s.KeepsNodes (s.lineEnable rq l) := by
  unfold State.lineEnable
  extract_lets up marked reported answered
  have hup : s.Narrows up none := State.updLine_narrows (.of_same rfl rfl rfl rfl rfl)
  have hmarked : up.Narrows marked none := up.mark_narrows fun _ _ => ⟨nofun, nofun⟩
  have hanswered : marked.Narrows answered none := (marked.reportChange_narrows none).trans (State.answer_narrows _ rq _ _ none)
  split
  · exact ((hup.trans hmarked).trans hanswered).keepsNodes.trans (answered.askArbiter_keepsNodes l)
  · exact s.answer_keepsNodes rq _ _

theorem State.lineDisable_keepsNodes (s : State) (rq : Request) (l : LineId) : s.KeepsNodes (s.lineDisable rq l) := by
  unfold State.lineDisable
  split
  · exact s.answer_keepsNodes rq _ _
  · exact (s.enterOff_keepsNodes l).trans
      ((State.reportChange_narrows _ none).trans (State.answer_narrows _ rq _ _ none)).keepsNodes

theorem State.lineInfo_keepsNodes (s : State) (rq : Request) (l : LineId) (clear : Bool) :
    s.KeepsNodes (s.lineInfo rq l clear) := by
  unfold State.lineInfo
  extract_lets x cleared
  have hcleared : s.Narrows cleared none := by
    simp only [cleared]
    split
    · exact State.setLine_narrows (.of_same rfl rfl rfl rfl rfl)
    · exact .refl s none
  exact (hcleared.trans (State.answer_narrows _ rq _ _ none)).keepsNodes

/-! ## NODE ADD and NODE SET -/

theorem nodeSetBody_inRange {body : List Byte} {i : Index} {c : NodeConfig} (h : nodeSetBody body = some (i, c)) :
    c.inRange = true := by
  unfold nodeSetBody at h
  split at h
  · simp only [Option.bind_eq_some_iff, Option.map_eq_some_iff] at h
    obtain ⟨index, -, ⟨c', disabled⟩, hc, h⟩ := h
    cases h
    exact nodeBody_inRange hc
  · cases h

/-- A row that takes a request keeps what its owner's rule keeps and the acceptance of a request does. -/
theorem State.take_keeps {p : State → Prop} {s : State} (hs : p s) (k : Option RequestKind) {owner : Request → State → State}
    (hp : ∀ id rq, p (s.accept id rq)) (h : ∀ rq u, p u → p (owner rq u)) : p (s.take k owner) := by
  obtain e | ⟨id, rq, -, e⟩ := s.take_cases k owner <;> rw [e]
  · exact hs
  · exact h rq _ (hp id rq)

theorem execNodeAdd_agrees {s t : State} (hs : s.NodesAgree) (h : execNodeAdd s = .next t) : t.NodesAgree := by
  cases h
  refine State.take_keeps hs _ (fun id rq => hs.narrow (s.accept_narrows id rq none)) fun rq u hu => ?_
  split
  · exact hu.narrow (u.answer_narrows rq _ _ none)
  · exact hu.nodeAdd rq (nodeBody_inRange ‹_›) _

theorem execNodeSet_agrees {s t : State} (hs : s.NodesAgree) (h : execNodeSet s = .next t) : t.NodesAgree := by
  cases h
  refine State.take_keeps hs _ (fun id rq => hs.narrow (s.accept_narrows id rq none)) fun rq u hu => ?_
  split
  · exact hu.narrow (u.answer_narrows rq _ _ none)
  · exact hu.nodeSet rq _ (nodeSetBody_inRange ‹_›)

theorem execNodeAdd_distinct {s t : State} (hs : s.AddressesDistinct) (h : execNodeAdd s = .next t) : t.AddressesDistinct := by
  cases h
  refine State.take_keeps hs _ (fun id rq => hs.kept (s.accept_narrows id rq none).configsKept) fun rq u hu => ?_
  split
  · exact hu.kept (u.answer_narrows rq _ _ none).configsKept
  · exact hu.nodeAdd rq _ _

theorem execNodeSet_distinct {s t : State} (hs : s.AddressesDistinct) (h : execNodeSet s = .next t) : t.AddressesDistinct := by
  cases h
  refine State.take_keeps hs _ (fun id rq => hs.kept (s.accept_narrows id rq none).configsKept) fun rq u hu => ?_
  split
  · exact hu.kept (u.answer_narrows rq _ _ none).configsKept
  · exact hu.nodeSet rq _ _

/-! ## The request rows -/

theorem execStatus_keepsNodes {s t : State} (h : execStatus s = .next t) : s.KeepsNodes t := by
  cases h
  refine s.take_keepsNodes _ fun rq u => ?_
  split
  · exact u.answer_keepsNodes rq _ _
  · exact u.answer_keepsNodes rq _ _

theorem execReset_keepsNodes {s t : State} (h : execReset s = .next t) : s.KeepsNodes t := by
  cases h
  refine s.take_keepsNodes _ fun rq u => ?_
  split
  · exact u.answer_keepsNodes rq _ _
  · exact (u.beginReset_narrows _).keepsNodes

theorem execLineSet_keepsNodes {s t : State} (h : execLineSet s = .next t) : s.KeepsNodes t := by
  cases h
  refine s.take_keepsNodes _ fun rq u => ?_
  split
  · exact u.answer_keepsNodes rq _ _
  · exact u.lineSet_keepsNodes rq _ _

theorem execLineEnable_keepsNodes {s t : State} (h : execLineEnable s = .next t) : s.KeepsNodes t := by
  cases h
  refine s.take_keepsNodes _ fun rq u => ?_
  split
  · exact u.answer_keepsNodes rq _ _
  · exact u.lineEnable_keepsNodes rq _

theorem execLineDisable_keepsNodes {s t : State} (h : execLineDisable s = .next t) : s.KeepsNodes t := by
  cases h
  refine s.take_keepsNodes _ fun rq u => ?_
  split
  · exact u.answer_keepsNodes rq _ _
  · exact u.lineDisable_keepsNodes rq _

theorem execLineInfo_keepsNodes {s t : State} (h : execLineInfo s = .next t) : s.KeepsNodes t := by
  cases h
  refine s.take_keepsNodes _ fun rq u => ?_
  split
  · exact u.answer_keepsNodes rq _ _
  · exact u.lineInfo_keepsNodes rq _ _

theorem execNodeRemove_keepsNodes {s t : State} (h : execNodeRemove s = .next t) : s.KeepsNodes t := by
  cases h
  refine s.take_keepsNodes _ fun rq u => ?_
  split
  · exact u.answer_keepsNodes rq _ _
  · exact u.nodeRemove_keepsNodes rq _

theorem execNodeEnable_keepsNodes {s t : State} (h : execNodeEnable s = .next t) : s.KeepsNodes t := by
  cases h
  refine s.take_keepsNodes _ fun rq u => ?_
  split
  · exact u.answer_keepsNodes rq _ _
  · exact u.nodeEnable_keepsNodes rq _

theorem execNodeDisable_keepsNodes {s t : State} (h : execNodeDisable s = .next t) : s.KeepsNodes t := by
  cases h
  refine s.take_keepsNodes _ fun rq u => ?_
  split
  · exact u.answer_keepsNodes rq _ _
  · exact u.nodeDisable_keepsNodes rq _

theorem execNodeInfo_keepsNodes {s t : State} (h : execNodeInfo s = .next t) : s.KeepsNodes t := by
  cases h
  refine s.take_keepsNodes _ fun rq u => ?_
  split
  · exact u.answer_keepsNodes rq _ _
  · exact u.nodeInfo_keepsNodes rq _ _

theorem execReadSnapshot_keepsNodes {s t : State} (h : execReadSnapshot s = .next t) : s.KeepsNodes t := by
  cases h
  refine s.take_keepsNodes _ fun rq u => ?_
  split
  · exact u.answer_keepsNodes rq _ _
  · exact u.readSnapshot_keepsNodes rq _

theorem execDemand_keepsNodes {s t : State} (h : execDemand s = .next t) : s.KeepsNodes t := by
  cases h
  refine s.take_keepsNodes _ fun rq u => ?_
  split
  · exact u.answer_keepsNodes rq _ _
  · exact u.demand_keepsNodes rq _ _

theorem execBroadcast_keepsNodes {s t : State} (h : execBroadcast s = .next t) : s.KeepsNodes t := by
  cases h
  refine s.take_keepsNodes _ fun rq u => ?_
  split
  · exact u.answer_keepsNodes rq _ _
  · exact u.broadcast_keepsNodes rq _ _

theorem execCancel_keepsNodes {s t : State} (h : execCancel s = .next t) : s.KeepsNodes t := by
  cases h
  refine s.take_keepsNodes _ fun rq u => ?_
  split
  · exact u.answer_keepsNodes rq _ _
  · exact u.cancel_keepsNodes rq _

theorem execScanStart_keepsNodes {s t : State} (h : execScanStart s = .next t) : s.KeepsNodes t := by
  cases h
  refine s.take_keepsNodes _ fun rq u => ?_
  split
  · exact u.answer_keepsNodes rq _ _
  · exact u.scanStart_keepsNodes rq _ _ _ _

theorem execScanAbort_keepsNodes {s t : State} (h : execScanAbort s = .next t) : s.KeepsNodes t := by
  cases h
  refine s.take_keepsNodes _ fun rq u => ?_
  split
  · exact u.answer_keepsNodes rq _ _
  · exact u.scanAbort_keepsNodes rq _

theorem execStoreSave_keepsNodes {s t : State} (h : execStoreSave s = .next t) : s.KeepsNodes t := by
  cases h
  refine s.take_keepsNodes _ fun rq u => ?_
  split
  · exact u.answer_keepsNodes rq _ _
  · exact u.storeSave_keepsNodes rq

theorem execStoreErase_keepsNodes {s t : State} (h : execStoreErase s = .next t) : s.KeepsNodes t := by
  cases h
  refine s.take_keepsNodes _ fun rq u => ?_
  split
  · exact u.answer_keepsNodes rq _ _
  · exact u.storeErase_keepsNodes rq

theorem execUnknownKind_keepsNodes {s t : State} (h : execUnknownKind s = .next t) : s.KeepsNodes t := by
  cases h
  exact s.take_keepsNodes _ fun rq u => (u.queueReply_narrows _ _ none).keepsNodes

/-! ## The event rows -/

/-- An update of one line that moves neither its demand queue, nor the kind in flight, nor its due list, nor its timers. -/
theorem State.updLine_keepsNodes (s : State) (l : LineId) {f : Line → Line} (h : (s.line l).Narrows (f (s.line l)) none) :
    s.KeepsNodes (s.updLine l f) := (State.updLine_narrows h).keepsNodes

theorem execResponseTimerExpiry_keepsNodes {l : LineId} {s t : State} (h : execResponseTimerExpiry l s = .next t) :
    s.KeepsNodes t := by
  cases h
  refine s.awake_keepsNodes ?_
  split
  · exact s.endAttempt_keepsNodes l _ _
  · exact s.updLine_keepsNodes l (.of_same rfl rfl rfl rfl rfl)
  · exact s.updLine_keepsNodes l (.of_same rfl rfl rfl rfl rfl)
  · exact .refl s

theorem execFrameGapExpiry_keepsNodes {l : LineId} {s t : State} (h : execFrameGapExpiry l s = .next t) : s.KeepsNodes t := by
  cases h
  refine s.awake_keepsNodes ?_
  split
  · split
    · exact s.breakCandidate_keepsNodes l
    · exact (s.setOpenFrame_narrows l none).keepsNodes
  · exact .refl s

theorem execEchoDeadlineExpiry_keepsNodes {l : LineId} {s t : State} (h : execEchoDeadlineExpiry l s = .next t) :
    s.KeepsNodes t := by
  cases h
  refine s.awake_keepsNodes ?_
  split
  · exact s.echoFails_keepsNodes l
  · exact .refl s

theorem execStuckSpaceExpiry_keepsNodes {l : LineId} {s t : State} (h : execStuckSpaceExpiry l s = .next t) :
    s.KeepsNodes t := by
  cases h
  refine s.awake_keepsNodes ?_
  split
  · exact s.enterFault_keepsNodes l _
  · exact .refl s

theorem execFaultRecovery_keepsNodes {l : LineId} {s t : State} (h : execFaultRecovery l s = .next t) : s.KeepsNodes t := by
  cases h
  refine s.awake_keepsNodes ?_
  split
  · refine State.KeepsNodes.trans ?_ (State.askArbiter_keepsNodes _ l)
    exact (s.updLine_keepsNodes l (.of_same rfl rfl rfl rfl rfl)).trans
      (State.mark_narrows _ (sub := .lineState l) fun _ _ => ⟨nofun, nofun⟩).keepsNodes
  · exact .refl s

theorem execGuardEnd_keepsNodes {l : LineId} {s t : State} (h : execGuardEnd l s = .next t) : s.KeepsNodes t := by
  cases h
  refine s.awake_keepsNodes ?_
  split
  · split
    · rename_i r hr
      refine s.updLine_keepsNodes l (.of_same rfl ?_ rfl rfl rfl)
      rw [Line.flightKind, Line.flightKind, hr]
      rfl
    · exact (s.updLine_keepsNodes l (.of_same rfl rfl rfl rfl rfl)).trans (State.askArbiter_keepsNodes _ l)
  · exact .refl s

theorem execStopBitSent_keepsNodes {l : LineId} {s t : State} (h : execStopBitSent l s = .next t) : s.KeepsNodes t := by
  cases h
  refine s.awake_keepsNodes ?_
  dsimp only
  split
  · exact (s.updLine_keepsNodes l (.of_same rfl rfl rfl rfl rfl)).trans (State.sendingEnds_keepsNodes _ l)
  · exact .refl s

theorem Line.pinChanges_narrows (x : Line) (mark : Bool) : x.Narrows (x.pinChanges mark) none := by
  unfold Line.pinChanges
  split
  · exact .refl x none
  · split
    · exact .of_same rfl rfl rfl rfl rfl
    · split <;> exact .of_same rfl rfl rfl rfl rfl

theorem execReceivePinChange_keepsNodes {l : LineId} {mark : Bool} {s t : State}
    (h : execReceivePinChange l mark s = .next t) : s.KeepsNodes t := by
  cases h
  split
  · exact s.updLine_keepsNodes l (Line.pinChanges_narrows _ mark)
  · exact s.updLine_keepsNodes l (.of_same rfl rfl rfl rfl rfl)

theorem execFieldCharacterReceived_keepsNodes {l : LineId} {data : Byte} {mark good : Bool} {s t : State}
    (h : execFieldCharacterReceived l data mark good s = .next t) : s.KeepsNodes t := by
  cases h
  refine s.awake_keepsNodes ?_
  split
  · exact .refl s
  · exact s.takeCharacter_keepsNodes l data mark good

theorem execWriteTransactionStart_keepsNodes {address : BitVec 7} {s t : State}
    (h : execWriteTransactionStart address s = .next t) : s.KeepsNodes t := by
  cases h
  split
  · exact (s.acknowledge_narrows false).keepsNodes
  · refine s.endLink_narrows.keepsNodes.trans (State.Narrows.keepsNodes ?_)
    dsimp only
    split
    · split
      · exact ((State.setSlot_narrows _ _ _).trans (.of_linkFields _ _ _ _ _ _)).trans (State.acknowledge_narrows _ true)
      · exact State.acknowledge_narrows _ false
    · exact State.acknowledge_narrows _ false

theorem execReadTransactionStart_keepsNodes {address : BitVec 7} {s t : State}
    (h : execReadTransactionStart address s = .next t) : s.KeepsNodes t := by
  cases h
  split
  · exact (s.acknowledge_narrows false).keepsNodes
  · refine s.endLink_narrows.keepsNodes.trans (State.Narrows.keepsNodes ?_)
    dsimp only
    split
    · exact (State.Narrows.of_linkFields _ _ _ _ _ _).trans (State.acknowledge_narrows _ true)
    · exact State.acknowledge_narrows _ false

theorem execWriteDataByte_keepsNodes {data : Byte} {s t : State} (h : execWriteDataByte data s = .next t) : s.KeepsNodes t := by
  cases h
  split
  · exact (s.storeByte_narrows _ data).keepsNodes
  · exact (s.acknowledge_narrows false).keepsNodes

theorem execWriteTransactionEnd_keepsNodes {s t : State} (h : execWriteTransactionEnd s = .next t) : s.KeepsNodes t := by
  cases h
  refine s.awake_keepsNodes ?_
  split
  · exact (s.endWrite_narrows _ _).keepsNodes
  · exact .refl s

theorem execReadTransactionEnd_keepsNodes {s t : State} (h : execReadTransactionEnd s = .next t) : s.KeepsNodes t := by
  cases h
  refine s.awake_keepsNodes ?_
  split
  · exact (s.endRead_narrows _ _).keepsNodes
  · exact .refl s

theorem execReadByteClocked_keepsNodes {s t : State} (h : execReadByteClocked s = .next t) : s.KeepsNodes t := by
  cases h
  refine s.awake_keepsNodes ?_
  split
  · exact (State.Narrows.of_linkFields s _ _ _ _ _).keepsNodes
  · exact .refl s

theorem execStallTimerExpiry_keepsNodes {s t : State} (h : execStallTimerExpiry s = .next t) : s.KeepsNodes t := by
  cases h
  refine s.awake_keepsNodes (State.Narrows.keepsNodes ?_)
  have released : s.Narrows { s with link := .none, linkAck := false, linkByte := 0xFF } none := .of_linkFields s _ _ _ _ _
  dsimp only
  split
  · exact (released.trans (State.setSlot_narrows _ _ _)).trans (State.rejectFrame_narrows _ none)
  · exact released
  · exact .refl s none

theorem execRstPinLow_keepsNodes {s t : State} (h : execRstPinLow s = .next t) : s.KeepsNodes t := by
  cases h
  split
  · exact .refl s
  · exact (s.beginReset_narrows _).keepsNodes

theorem execPollTimerExpiry_keepsNodes {index : Nat} {s t : State} (h : execPollTimerExpiry index s = .next t) :
    s.KeepsNodes t := by
  cases h
  refine s.awake_keepsNodes (s.onNode_keepsNodes index fun i n _ => ?_)
  split
  · exact s.pollTimerExpires_keepsNodes _ i ‹_›
  · exact .refl s

theorem execRecoveryTimerExpiry_keepsNodes {index : Nat} {s t : State} (h : execRecoveryTimerExpiry index s = .next t) :
    s.KeepsNodes t := by
  cases h
  refine s.awake_keepsNodes (s.onNode_keepsNodes index fun i n _ => ?_)
  split
  · exact s.recoveryTimerExpires_keepsNodes _ i ‹_›
  · exact .refl s

theorem execDueTimeAdvance_keepsNodes {index : Nat} {s t : State} (h : execDueTimeAdvance index s = .next t) :
    s.KeepsNodes t := by
  cases h
  exact s.awake_keepsNodes (s.onNode_keepsNodes index fun i n _ => s.updLine_keepsNodes _ (Line.advance_narrows _ i _ none))

theorem execSnapshotAgeOut_keepsNodes {index : Nat} {s t : State} (h : execSnapshotAgeOut index s = .next t) :
    s.KeepsNodes t := by
  cases h
  refine s.awake_keepsNodes (s.onNode_keepsNodes index fun i n _ => ?_)
  split
  · split
    · split
      · exact State.replaceSnapshot_keepsNodes ‹_› _
      · exact .refl s
    · exact .refl s
  · exact .refl s

theorem execSaveWriteCompletion_keepsNodes {phase : Nat} {s t : State} (h : execSaveWriteCompletion s phase = .next t) :
    s.KeepsNodes t := by
  cases h
  refine s.awake_keepsNodes (s.inPhase_narrows phase _ fun tag image target generation => ?_).keepsNodes
  exact (s.setStoreSlot_narrows target _).trans (.of_storeFields _ _ _ _ _ _)

theorem execSaveWriteTimerExpiry_keepsNodes {phase : Nat} {s t : State} (h : execSaveWriteTimerExpiry s phase = .next t) :
    s.KeepsNodes t := by
  cases h
  exact s.awake_keepsNodes (s.inPhase_narrows phase _ fun tag _ _ generation => s.endSave_narrows tag generation false).keepsNodes

theorem execSaveVerifyReadBack_keepsNodes {equal : Bool} {phase : Nat} {s t : State}
    (h : execSaveVerifyReadBack equal s phase = .next t) : s.KeepsNodes t := by
  cases h
  refine s.awake_keepsNodes (s.inPhase_narrows phase _ fun tag image target generation => ?_).keepsNodes
  split
  · exact .of_storeFields s _ _ _ _ _
  · exact s.endSave_narrows tag generation false

theorem execSaveMarkWriteCompletion_keepsNodes {phase : Nat} {s t : State}
    (h : execSaveMarkWriteCompletion s phase = .next t) : s.KeepsNodes t := by
  cases h
  refine s.awake_keepsNodes (s.inPhase_narrows phase _ fun tag image target generation => ?_).keepsNodes
  exact (s.setStoreSlot_narrows target _).trans (State.endSave_narrows _ tag generation true)

theorem execSaveVerifyTimerExpiry_keepsNodes {phase : Nat} {s t : State} (h : execSaveVerifyTimerExpiry s phase = .next t) :
    s.KeepsNodes t := by
  cases h
  exact s.awake_keepsNodes (s.inPhase_narrows phase _ fun tag _ _ generation => s.endSave_narrows tag generation false).keepsNodes

theorem execEraseInvalidationCompletion_keepsNodes {cleared : Bool} {phase : Nat} {s t : State}
    (h : execEraseInvalidationCompletion cleared s phase = .next t) : s.KeepsNodes t := by
  cases h
  refine s.awake_keepsNodes (s.inErase_narrows phase fun tag slot rest held => ?_).keepsNodes
  split
  · exact s.eraseNext_narrows tag rest
  · exact ((s.setStoreSlot_narrows slot _).trans (.of_storeFields _ _ _ _ _ _)).trans (State.endErase_narrows _ tag _)

theorem execEraseTimerExpiry_keepsNodes {phase : Nat} {s t : State} (h : execEraseTimerExpiry s phase = .next t) :
    s.KeepsNodes t := by
  cases h
  exact s.awake_keepsNodes (s.inErase_narrows phase fun tag _ _ _ => s.endErase_narrows tag _).keepsNodes

theorem execPartTimeTick_keepsNodes {s t : State} (h : execPartTimeTick s = .next t) : s.KeepsNodes t := by
  cases h
  refine s.awake_keepsNodes (State.Narrows.keepsNodes ?_)
  exact .of_fields rfl rfl (fun _ => id) rfl rfl

/-! ## Every command -/

/-- What a row that adds no entry, sets no configuration and ends no reset does to the node table. -/
theorem exec_keepsNodes {c : Instr} {s t : State} (hadd : c ≠ .nodeAdd) (hset : c ≠ .nodeSet)
    (hreset : ∀ a b, c ≠ .resetComplete a b) (h : exec c s = .next t) : s.KeepsNodes t := by
  cases c with
  | nodeAdd => exact absurd rfl hadd
  | nodeSet => exact absurd rfl hset
  | resetComplete a b => exact absurd rfl (hreset a b)
  | powerUp => cases h; exact (s.beginReset_narrows _).keepsNodes
  | status => exact execStatus_keepsNodes h
  | resetRequest => exact execReset_keepsNodes h
  | lineSet => exact execLineSet_keepsNodes h
  | lineEnable => exact execLineEnable_keepsNodes h
  | lineDisable => exact execLineDisable_keepsNodes h
  | lineInfo => exact execLineInfo_keepsNodes h
  | nodeRemove => exact execNodeRemove_keepsNodes h
  | nodeEnable => exact execNodeEnable_keepsNodes h
  | nodeDisable => exact execNodeDisable_keepsNodes h
  | nodeInfo => exact execNodeInfo_keepsNodes h
  | readSnapshot => exact execReadSnapshot_keepsNodes h
  | demand => exact execDemand_keepsNodes h
  | broadcast => exact execBroadcast_keepsNodes h
  | cancel => exact execCancel_keepsNodes h
  | scanStart => exact execScanStart_keepsNodes h
  | scanAbort => exact execScanAbort_keepsNodes h
  | storeSave => exact execStoreSave_keepsNodes h
  | storeErase => exact execStoreErase_keepsNodes h
  | unknownKind => exact execUnknownKind_keepsNodes h
  | writeTransactionStart => exact execWriteTransactionStart_keepsNodes h
  | writeTransactionEnd => exact execWriteTransactionEnd_keepsNodes h
  | readTransactionStart => exact execReadTransactionStart_keepsNodes h
  | readTransactionEnd => exact execReadTransactionEnd_keepsNodes h
  | stallTimerExpiry => exact execStallTimerExpiry_keepsNodes h
  | rstPinLow => exact execRstPinLow_keepsNodes h
  | pollTimerExpiry => exact execPollTimerExpiry_keepsNodes h
  | recoveryTimerExpiry => exact execRecoveryTimerExpiry_keepsNodes h
  | dueTimeAdvance => exact execDueTimeAdvance_keepsNodes h
  | snapshotAgeOut => exact execSnapshotAgeOut_keepsNodes h
  | responseTimerExpiry => exact execResponseTimerExpiry_keepsNodes h
  | frameGapExpiry => exact execFrameGapExpiry_keepsNodes h
  | echoDeadlineExpiry => exact execEchoDeadlineExpiry_keepsNodes h
  | stuckSpaceExpiry => exact execStuckSpaceExpiry_keepsNodes h
  | faultRecovery => exact execFaultRecovery_keepsNodes h
  | guardEnd => exact execGuardEnd_keepsNodes h
  | fieldCharacterReceived => exact execFieldCharacterReceived_keepsNodes h
  | saveWriteCompletion => exact execSaveWriteCompletion_keepsNodes h
  | saveWriteTimerExpiry => exact execSaveWriteTimerExpiry_keepsNodes h
  | saveVerifyReadBack => exact execSaveVerifyReadBack_keepsNodes h
  | saveMarkWriteCompletion => exact execSaveMarkWriteCompletion_keepsNodes h
  | saveVerifyTimerExpiry => exact execSaveVerifyTimerExpiry_keepsNodes h
  | eraseInvalidationCompletion => exact execEraseInvalidationCompletion_keepsNodes h
  | eraseTimerExpiry => exact execEraseTimerExpiry_keepsNodes h
  | partTimeTick => exact execPartTimeTick_keepsNodes h
  | stopBitSent => exact execStopBitSent_keepsNodes h
  | receivePinChange => exact execReceivePinChange_keepsNodes h
  | writeDataByte => exact execWriteDataByte_keepsNodes h
  | readByteClocked => exact execReadByteClocked_keepsNodes h

/-- A reset in progress lasts until RESET_COMPLETE (R161). -/
theorem exec_resetting {c : Instr} {s t : State} {cause : ResetCause} (hs : s.resetting = some cause)
    (hreset : ∀ a b, c ≠ .resetComplete a b) (h : exec c s = .next t) : t.resetting ≠ none := by
  have asleep : ∀ f : State → State, s.awake f = s := fun f => by simp [State.awake, hs]
  have untaken : ∀ k owner, s.take k owner = s := fun k owner => by simp [State.take, hs]
  have stays : s.resetting ≠ none := by rw [hs]; nofun
  cases c with
  | resetComplete a b => exact absurd rfl (hreset a b)
  | powerUp => cases h; nofun
  | rstPinLow =>
    cases h
    split
    · exact stays
    · nofun
  | receivePinChange l mark => cases h; simp [hs]
  | writeTransactionStart address => cases h; simp [hs, State.acknowledge]
  | readTransactionStart address => cases h; simp [hs, State.acknowledge]
  | writeDataByte data => cases h; simp [hs, State.acknowledge]
  | status | resetRequest | lineSet | lineEnable | lineDisable | lineInfo | nodeAdd | nodeSet | nodeRemove | nodeEnable
  | nodeDisable | nodeInfo | readSnapshot | demand | broadcast | cancel | scanStart | scanAbort | storeSave | storeErase
  | unknownKind => cases h; rw [untaken]; exact stays
  | _ => cases h; rw [asleep]; exact stays

theorem exec_nodesInOrder {c : Instr} {s t : State} (hs : s.NodesInOrder) (h : exec c s = .next t) : t.NodesInOrder := by
  intro ht
  by_cases hreset : ∃ a b, c = .resetComplete a b
  · obtain ⟨a, b, rfl⟩ := hreset
    cases h
    revert ht
    split
    · exact fun _ => s.comeOut_agrees _ _
    · exact hs
  · have hreset : ∀ a b, c ≠ .resetComplete a b := fun a b e => hreset ⟨a, b, e⟩
    have awake : s.resetting = none := by
      by_contra hr
      obtain ⟨cause, hr⟩ := Option.ne_none_iff_exists'.mp hr
      exact exec_resetting hr hreset h ht
    by_cases hadd : c = .nodeAdd
    · subst hadd; exact execNodeAdd_agrees (hs awake) h
    · by_cases hset : c = .nodeSet
      · subst hset; exact execNodeSet_agrees (hs awake) h
      · exact (exec_keepsNodes hadd hset hreset h).agree (hs awake)

theorem exec_addressesDistinct {c : Instr} {s t : State} (hs : s.AddressesDistinct) (h : exec c s = .next t) :
    t.AddressesDistinct := by
  by_cases hreset : ∃ a b, c = .resetComplete a b
  · obtain ⟨a, b, rfl⟩ := hreset
    cases h
    split
    · exact s.comeOut_distinct _ _
    · exact hs
  · by_cases hadd : c = .nodeAdd
    · subst hadd; exact execNodeAdd_distinct hs h
    · by_cases hset : c = .nodeSet
      · subst hset; exact execNodeSet_distinct hs h
      · exact hs.kept (exec_keepsNodes hadd hset (fun a b e => hreset ⟨a, b, e⟩) h).configs

/-- A step is the front command run on the rest of the queue, which no law reads, or nothing. -/
theorem step_cases {s t : State} (h : step s = .next t) :
    s = t ∨ ∃ c rest, s.pending = c :: rest ∧ exec c { s with pending := rest } = .next t := by
  unfold step at h
  split at h
  · cases h; exact .inl rfl
  · exact .inr ⟨_, _, ‹_›, h⟩

theorem State.setPending_narrows (s : State) (q : List Instr) : s.Narrows { s with pending := q } none :=
  .of_fields rfl rfl (fun _ => id) rfl rfl

/-- Settles O56: each command keeps the agreement, most of them because they add no reference to a node. -/
theorem nodesStayInOrder : Obligations.NodesStayInOrder := by
  intro s t hs h
  obtain rfl | ⟨c, rest, -, h⟩ := step_cases h
  · exact hs
  · have rested : State.NodesInOrder { s with pending := rest } := fun hr => (hs hr).narrow (s.setPending_narrows rest)
    exact exec_nodesInOrder rested h

/-- Settles O57: only NODE ADD, NODE SET and the load of an image put a configuration into the table, and each checks it. -/
theorem addressesStayDistinct : Obligations.AddressesStayDistinct := by
  intro s t hs h
  obtain rfl | ⟨c, rest, -, h⟩ := step_cases h
  · exact hs
  · exact exec_addressesDistinct (hs.kept (s.setPending_narrows rest).configsKept) h

end Sys2Proof.Machine

/-! SUPPORT. The rows NODE ADD, NODE SET, NODE ENABLE and NODE INFO (R8 to R11, R15): what each does with a ready request. -/

namespace Sys2Proof.Machine

/-! ## A ready request and its reply -/

theorem State.liveNode_accept (s : State) (id : SlotId) (rq : Request) (i : Index) :
    (s.accept id rq).liveNode i = s.liveNode i := State.liveNode_congr (s.node_accept id rq i)

/-- A reply that fills the reservation of a request of this kind; the reservations besides it stand. -/
theorem State.answer_exact (u : State) {rq : Request} {k : RequestKind} (hk : requestKindOf rq.kind = some k) {r : Nat}
    (hr : u.reserved - rq.reservation = r) (status : Status) {data : List Byte} (h : 6 + data.length = rq.reservation) :
    u.answer rq status data = { u with
      reserved := r
      outbound := u.outbound ++ [.reply { kind := k.replyKind, tag := rq.tag, status := status, data := data }] } := by
  rw [State.answer, State.queueReply_exact u h, RequestKind.replyKind, ← kind_of_requestKindOf hk, hr]

/-- The same right after the request has been taken: no reservation stands. -/
theorem State.accept_answer_of_kind (s : State) (id : SlotId) {rq : Request} {k : RequestKind}
    (hk : requestKindOf rq.kind = some k) (status : Status) {data : List Byte} (h : 6 + data.length = rq.reservation) :
    (s.accept id rq).answer rq status data = { s.taken id with
      outbound := s.outbound ++ [.reply { kind := k.replyKind, tag := rq.tag, status := status, data := data }] } := by
  rw [State.accept_answer_exact s id rq status h, RequestKind.replyKind, ← kind_of_requestKindOf hk]

theorem exec_nodeAdd_ready {s : State} {id : SlotId} {rq : Request} {c : NodeConfig} {disabled : Bool}
    (h : s.ready (some .nodeAdd) id rq) (hb : nodeBody rq.body = some (c, disabled)) :
    exec .nodeAdd s = .next ((s.accept id rq).nodeAdd rq c disabled) := by
  show Host.Outcome.next (s.take _ _) = _
  rw [State.take_of_ready h, hb]

theorem exec_nodeSet_ready {s : State} {id : SlotId} {rq : Request} {i : Index} {c : NodeConfig}
    (h : s.ready (some .nodeSet) id rq) (hb : nodeSetBody rq.body = some (i, c)) :
    exec .nodeSet s = .next ((s.accept id rq).nodeSet rq i c) := by
  show Host.Outcome.next (s.take _ _) = _
  rw [State.take_of_ready h, hb]

theorem exec_nodeRemove_ready {s : State} {id : SlotId} {rq : Request} {i : Index} (h : s.ready (some .nodeRemove) id rq)
    (hb : indexBody rq.body = some i) : exec .nodeRemove s = .next ((s.accept id rq).nodeRemove rq i) := by
  show Host.Outcome.next (s.take _ _) = _
  rw [State.take_of_ready h, hb]

theorem exec_nodeEnable_ready {s : State} {id : SlotId} {rq : Request} {i : Index} (h : s.ready (some .nodeEnable) id rq)
    (hb : indexBody rq.body = some i) : exec .nodeEnable s = .next ((s.accept id rq).nodeEnable rq i) := by
  show Host.Outcome.next (s.take _ _) = _
  rw [State.take_of_ready h, hb]

theorem exec_nodeDisable_ready {s : State} {id : SlotId} {rq : Request} {i : Index} (h : s.ready (some .nodeDisable) id rq)
    (hb : indexBody rq.body = some i) : exec .nodeDisable s = .next ((s.accept id rq).nodeDisable rq i) := by
  show Host.Outcome.next (s.take _ _) = _
  rw [State.take_of_ready h, hb]

theorem exec_nodeInfo_ready {s : State} {id : SlotId} {rq : Request} {i : Index} {clear : Bool}
    (h : s.ready (some .nodeInfo) id rq) (hb : nodeInfoBody rq.body = some (i, clear)) :
    exec .nodeInfo s = .next ((s.accept id rq).nodeInfo rq i clear) := by
  show Host.Outcome.next (s.take _ _) = _
  rw [State.take_of_ready h, hb]

/-! ## NODE ADD -/

/-- The lowest free index (R6). -/
theorem State.freeIndex_eq_some {s : State} {i : Index} (hi : s.node i = none) (hlow : ∀ j, j < i → s.node j ≠ none) :
    s.freeIndex = some i := by
  refine List.find?_eq_some_iff_getElem.mpr ⟨by simp [hi], i.val, by simp [allIndices], by simp [allIndices], fun j hj => ?_⟩
  have := hlow ⟨j, hj.trans i.isLt⟩ hj
  simpa [allIndices, Option.isSome_iff_ne_none] using this

theorem State.freeIndex_eq_none {s : State} (h : ∀ j, s.node j ≠ none) : s.freeIndex = none :=
  List.find?_eq_none.mpr fun j _ => by simpa [Option.isNone_iff_eq_none] using h j

/-- Settles O13: the cases of `State.nodeAdd`, with the reply that fills its reservation of 7 bytes. -/
theorem nodeAddTakesLowestFreeIndex : Obligations.NodeAddTakesLowestFreeIndex := by
  intro s id rq c disabled hready hbody
  have hkind := hready.2.2.1
  have hres : rq.reservation = 7 := reservation_of_kind hkind
  have refused : ∀ status, (s.accept id rq).answer rq status [] =
      (s.accept id rq).queueReply 7 { kind := 0xA0, tag := rq.tag, status := status, data := [] } := fun status => by
    rw [State.answer, hres, kind_of_requestKindOf hkind]
    rfl
  have held_iff := State.addressHeld_eq_true_iff (s.accept id rq) c.line c.address
  simp only [State.node_accept] at held_iff
  rw [exec_nodeAdd_ready hready hbody]
  refine ⟨fun held => ?_, fun free => ?_⟩
  · rw [State.nodeAdd_of_held (held_iff.mpr held), refused]
  have held : (s.accept id rq).addressHeld c.line c.address = false :=
    Bool.eq_false_iff.mpr fun h => by
      obtain ⟨j, m, hm, hc⟩ := held_iff.mp h
      exact free j m hm hc
  refine ⟨fun full => ?_, fun i hi hlow => ?_⟩
  · rw [State.nodeAdd_of_full held (State.freeIndex_eq_none fun j => by rw [State.node_accept]; exact full j), refused]
  extract_lets table added
  have hadded : (s.accept id rq).added rq c disabled i = added := by
    rw [State.added, State.answer_exact _ hkind (r := s.reserved) (by simp) _ (by rw [hres]; rfl)]
    cases id <;> rfl
  have hfree : (s.accept id rq).freeIndex = some i :=
    State.freeIndex_eq_some (by simpa using hi) fun j hj => by simpa using hlow j hj
  rw [State.nodeAdd_of_free held hfree, hadded]
  refine ⟨fun hd hc => ?_, fun h => ?_⟩
  · rw [if_pos ⟨by simp [hd], hc⟩]
    cases id <;> rfl
  · rw [if_neg]
    rintro ⟨hd, hc⟩
    rcases h with h | h
    · exact hd h
    · simp [h] at hc

/-! ## NODE SET -/

theorem State.nodeSet_of_none {s : State} {i : Index} (h : s.liveNode i = none) (rq : Request) (c : NodeConfig) :
    s.nodeSet rq i c = s.answer rq .noSuchNode [byteOf i] := by
  unfold State.nodeSet
  rw [h]

theorem State.nodeSet_of_active {s : State} {i : Index} {n : Node} (h : s.liveNode i = some n)
    (ha : n.state ≠ .disabled ∨ n.mark ≠ .none) (rq : Request) (c : NodeConfig) :
    s.nodeSet rq i c = s.answer rq .nodeActive [byteOf i] := by
  unfold State.nodeSet
  rw [h]
  by_cases hs : n.state = .disabled
  · exact (if_neg (not_not.mpr hs)).trans (if_pos (ha.resolve_left (not_not.mpr hs)))
  · exact if_pos hs

theorem State.nodeSet_of_disabled {s : State} {i : Index} {n : Node} (h : s.liveNode i = some n) (hs : n.state = .disabled)
    (hm : n.mark = .none) (rq : Request) (c : NodeConfig) : s.nodeSet rq i c =
      if s.heldByAnother i c.line c.address then s.answer rq .duplicate [byteOf i]
      else (s.configured i n c).answer rq .ok [byteOf i] := by
  unfold State.nodeSet
  rw [h]
  exact (if_neg (not_not.mpr hs)).trans (if_neg (not_not.mpr hm))

theorem State.configured_reserved (s : State) (i : Index) (n : Node) (c : NodeConfig) :
    (s.configured i n c).reserved = s.reserved := by
  unfold State.configured
  split <;> rfl

/-- Settles O14: the cases of `State.nodeSet`. -/
theorem nodeSetReplacesConfiguration : Obligations.NodeSetReplacesConfiguration := by
  intro s id rq i c hready hbody
  have hkind := hready.2.2.1
  have hres : rq.reservation = 7 := reservation_of_kind hkind
  have hlen : 6 + [byteOf i.val].length = rq.reservation := by rw [hres]; rfl
  have held_iff := State.heldByAnother_eq_true_iff (s.accept id rq) i c.line c.address
  simp only [State.node_accept] at held_iff
  rw [exec_nodeSet_ready hready hbody]
  refine ⟨fun hnone => ?_, fun n hlive => ?_⟩
  · rw [State.nodeSet_of_none (by rw [State.liveNode_accept]; exact hnone), s.accept_answer_of_kind id hkind _ hlen]
    rfl
  rw [← s.liveNode_accept id rq] at hlive
  refine ⟨fun active => ?_, fun hs hm => ⟨fun held => ?_, fun free => ?_⟩⟩
  · rw [State.nodeSet_of_active hlive active, s.accept_answer_of_kind id hkind _ hlen]
    rfl
  · rw [State.nodeSet_of_disabled hlive hs hm, if_pos (held_iff.mpr held), s.accept_answer_of_kind id hkind _ hlen]
    rfl
  · have held : ¬(s.accept id rq).heldByAnother i c.line c.address = true := fun h => by
      obtain ⟨j, m, hj, hn, hc⟩ := held_iff.mp h
      exact free j m hj hn hc
    rw [State.nodeSet_of_disabled hlive hs hm, if_neg held, State.answer_exact _ hkind (r := s.reserved) (by simp [State.configured_reserved]) _ hlen]
    by_cases hc : c = n.config
    · rw [State.configured, if_pos hc, decide_eq_false (not_not.mpr hc)]
      cases id <;> simp [State.accept, State.taken, State.setSlot, State.setNode, RequestKind.replyKind, RequestKind.code]
    · rw [State.configured, if_neg hc, decide_eq_true hc]
      cases id <;> simp [State.accept, State.taken, State.setSlot, State.setNode, State.reportChange, State.saving,
        RequestKind.replyKind, RequestKind.code]

/-! ## NODE ENABLE -/

theorem State.nodeEnable_of_none {s : State} {i : Index} (h : s.liveNode i = none) (rq : Request) :
    s.nodeEnable rq i = s.answer rq .noSuchNode [byteOf i] := by
  unfold State.nodeEnable
  rw [h]

theorem State.nodeEnable_of_active {s : State} {i : Index} {n : Node} (h : s.liveNode i = some n) (hs : n.state ≠ .disabled)
    (rq : Request) : s.nodeEnable rq i = s.answer rq .ok [byteOf i] := by
  unfold State.nodeEnable
  rw [h]
  exact if_neg hs

theorem State.nodeEnable_of_disabled {s : State} {i : Index} {n : Node} (h : s.liveNode i = some n) (hs : n.state = .disabled)
    (rq : Request) : s.nodeEnable rq i =
      let enabled := (((s.setNode i (some n.enabled)).mark (.nodeState i)).reportChange).answer rq .ok [byteOf i]
      if n.config.descriptor.isSome then enabled.makeDueNow n.config.line i else enabled := by
  unfold State.nodeEnable
  rw [h]
  exact if_pos hs

/-- A reported change and a reply: all that follows a mark in NODE ENABLE and
NODE DISABLE (R11, R12). -/
theorem State.reportChange_answer_exact (u : State) {rq : Request} {k : RequestKind} (hk : requestKindOf rq.kind = some k)
    {r : Nat} (hr : u.reserved - rq.reservation = r) (status : Status) {data : List Byte}
    (h : 6 + data.length = rq.reservation) : u.reportChange.answer rq status data = { u with
      reserved := r
      outbound := u.outbound ++ [.reply { kind := k.replyKind, tag := rq.tag, status := status, data := data }]
      configChanged := true, changedAfterCapture := u.changedAfterCapture || u.saving } := by
  rw [State.answer_exact u.reportChange hk hr _ h]
  rfl

theorem QueueOnly.saving {s t : State} (h : QueueOnly s t) : t.saving = s.saving := by
  simp only [State.saving, h.storeJob]

/-- Settles O16: the cases of `State.nodeEnable`. -/
theorem nodeEnableMakesNew : Obligations.NodeEnableMakesNew := by
  intro s id rq i hready hbody
  have hkind := hready.2.2.1
  have hres : rq.reservation = 7 := reservation_of_kind hkind
  have hlen : 6 + [byteOf i.val].length = rq.reservation := by rw [hres]; rfl
  rw [exec_nodeEnable_ready hready hbody]
  refine ⟨fun hnone => ?_, fun n hlive => ?_⟩
  · rw [State.nodeEnable_of_none (by rw [State.liveNode_accept]; exact hnone), s.accept_answer_of_kind id hkind _ hlen]
    rfl
  rw [← s.liveNode_accept id rq] at hlive
  refine ⟨fun active => ?_, fun hs => ?_⟩
  · rw [State.nodeEnable_of_active hlive active, s.accept_answer_of_kind id hkind _ hlen]
    rfl
  · let a := (s.accept id rq).setNode i (some n.enabled)
    let u := a.mark (.nodeState i)
    have core : QueueOnly a u := a.mark_queueOnly _
    have saving : u.saving = s.saving := by rw [core.saving]; cases id <;> rfl
    have captured : u.changedAfterCapture = s.changedAfterCapture := by rw [core.changedAfterCapture]; simp [a]
    have reserved : u.reserved - rq.reservation = s.reserved := by rw [(a.mark_posts _).2.2.1]; simp [a]
    have partTime : u.partTime = s.partTime := by rw [core.partTime]; simp [a]
    refine ⟨u, _, rfl, rfl, ?_⟩
    rw [State.nodeEnable_of_disabled hlive hs]
    dsimp only
    rw [State.reportChange_answer_exact u hkind reserved _ hlen, captured, saving]
    show (_ → Host.Outcome.next (if n.config.descriptor.isSome then _ else _) = _) ∧ (_ → Host.Outcome.next _ = _)
    refine ⟨fun hd => ?_, fun hd => ?_⟩
    · rw [if_neg (by simp [hd])]
      rfl
    · rw [if_pos hd, State.makeDueNow, State.makeDue, partTime]
      rfl

/-! ## NODE INFO -/

theorem State.setNode_self {s : State} {i : Index} {n : Node} (h : s.node i = some n) : s.setNode i (some n) = s := by
  have same : s.nodes.set i.val (some n) i.isLt = s.nodes := by
    rw [← h]
    exact Vector.set_getElem_self i.isLt
  rw [State.setNode, same]

theorem NodeState.bytes_length {n : NodeState} (h : n ≠ .removing) : n.bytes.length = 1 := by
  cases n with
  | removing => exact absurd rfl h
  | new | online | suspect | offline | disabled => rfl

/-- Settles O18: NODE INFO answers the 26 bytes of its report, which fill its reservation of 32. -/
theorem nodeInfoReports : Obligations.NodeInfoReports := by
  intro s id rq i clear hready hbody
  have hkind := hready.2.2.1
  have hres : rq.reservation = 32 := reservation_of_kind hkind
  rw [exec_nodeInfo_ready hready hbody, State.nodeInfo, State.liveNode_accept]
  refine ⟨fun hnone => ?_, fun n hlive => ?_⟩
  · rw [hnone]
    dsimp only
    rw [State.answer, hres, kind_of_requestKindOf hkind]
    rfl
  obtain ⟨hn, live⟩ := (s.liveNode_iff i n).mp hlive
  have hlen : 6 + (nodeInfoData i n).length = rq.reservation := by
    simp [nodeInfoData, NodeState.bytes_length live, hres]
  have cleared : (if clear then (s.accept id rq).setNode i (some { n with counters := {} }) else s.accept id rq) =
      (s.accept id rq).setNode i (some { n with counters := if clear then {} else n.counters }) := by
    cases clear with
    | true => rfl
    | false => exact (State.setNode_self (by simpa using hn)).symm
  rw [hlive]
  dsimp only
  rw [cleared, State.answer_exact _ hkind (r := s.reserved) (by simp) _ hlen]
  cases id <;> rfl

end Sys2Proof.Machine

/-! SUPPORT. NODE REMOVE, NODE DISABLE and the entry into OFFLINE (R12, R13, R18): the messages, tags and reservations of the purge and
of the mark or withdrawal after it, and the rest of the state, which the purge does not read. -/

namespace Sys2Proof.Machine

/-! ## Updates of states that differ in the message side alone -/

/-- The message side of a state may be replaced. -/
theorem State.messages_queueOnly (s : State) (out : List Message) (res : Nat) (tags : List Byte) (notices : List Subject)
    (errors : Byte) : QueueOnly s { s with
      outbound := out, reserved := res, tags := tags, notices := notices, linkErrors := errors } := by constructor <;> rfl

theorem QueueOnly.setNode {s t : State} (h : QueueOnly s t) (i : Index) (m : Option Node) :
    QueueOnly (s.setNode i m) (t.setNode i m) := by
  rw [h.eq]; exact State.messages_queueOnly _ _ _ _ _ _

theorem QueueOnly.setSnapshot {s t : State} (h : QueueOnly s t) (i : Index) (x : Option Snapshot) :
    QueueOnly (s.setSnapshot i x) (t.setSnapshot i x) := by
  rw [h.eq]; exact State.messages_queueOnly _ _ _ _ _ _

theorem QueueOnly.updLine {s t : State} (h : QueueOnly s t) (l : LineId) (f : Line → Line) :
    QueueOnly (s.updLine l f) (t.updLine l f) := by
  rw [h.eq]; cases l <;> exact State.messages_queueOnly _ _ _ _ _ _

theorem QueueOnly.reportChange {s t : State} (h : QueueOnly s t) : QueueOnly s.reportChange t.reportChange := by
  rw [h.eq]; exact State.messages_queueOnly _ _ _ _ _ _

theorem State.taken_queueOnly_accept (s : State) (id : SlotId) (rq : Request) : QueueOnly (s.taken id) (s.accept id rq) := by
  constructor <;> cases id <;> rfl

/-! ## What is said of the notices -/

/-- The notices of two states compare as those of any states with the same. -/
theorem State.NoticesKept.congr {s s' t t' : State} {marked : List Subject} (h : s.NoticesKept t marked)
    (hs : s'.notices = s.notices) (hse : s'.linkErrors = s.linkErrors) (hsq : ∀ sub, s'.noticeQueued sub = s.noticeQueued sub)
    (ht : t'.notices = t.notices) (hte : t'.linkErrors = t.linkErrors) (htq : ∀ sub, t'.noticeQueued sub = t.noticeQueued sub) :
    s'.NoticesKept t' marked := by
  refine ⟨fun sub g => ?_, by rw [hs, ht]; exact h.order, by rw [hse, hte, hsq, htq]; exact h.count⟩
  have := h.reported sub (by simpa only [State.Reported, hs, hsq] using g)
  simpa only [State.Reported, ht, htq] using this

theorem State.noticeQueued_congr {s t : State} (h : t.outbound = s.outbound) (sub : Subject) :
    t.noticeQueued sub = s.noticeQueued sub := by simp [State.noticeQueued, h]

/-- A reply in the queue is no notice. -/
theorem State.noticeQueued_reply {s t : State} {r : Reply} (h : t.outbound = s.outbound ++ [.reply r]) (sub : Subject) :
    t.noticeQueued sub = s.noticeQueued sub := by
  simp [State.noticeQueued, h, Message.subject]

/-- A notice in the queue leaves a mark of its subject pending (R97, R98). -/
theorem State.mark_pending_of_queued {s : State} {sub : Subject} (h : s.noticeQueued sub = true) : sub ∈ (s.mark sub).notices := by
  unfold State.mark
  split
  · assumption
  · rw [if_neg (by simp [State.eligible, h])]
    simp

/-- The message sides of two states are the same. -/
structure SameMessages (s t : State) : Prop where
  outbound : t.outbound = s.outbound
  reserved : t.reserved = s.reserved
  tags : t.tags = s.tags
  notices : t.notices = s.notices
  linkErrors : t.linkErrors = s.linkErrors

theorem SameMessages.queued {s t : State} (h : SameMessages s t) (sub : Subject) : t.noticeQueued sub = s.noticeQueued sub :=
  State.noticeQueued_congr h.outbound sub

theorem State.setSnapshot_sameMessages (s : State) (i : Index) (x : Option Snapshot) : SameMessages s (s.setSnapshot i x) := by
  constructor <;> rfl
theorem State.reportChange_sameMessages (s : State) : SameMessages s s.reportChange := by
  constructor <;> rfl
theorem State.updLine_sameMessages (s : State) (l : LineId) (f : Line → Line) : SameMessages s (s.updLine l f) := by
  constructor <;> simp

theorem SameMessages.trans {s t u : State} (h : SameMessages s t) (g : SameMessages t u) : SameMessages s u :=
  ⟨g.outbound.trans h.outbound, g.reserved.trans h.reserved, g.tags.trans h.tags, g.notices.trans h.notices,
    g.linkErrors.trans h.linkErrors⟩

/-! ## The purge -/

theorem demandReply_tag (l : LineId) (tag : Byte) (node : Option Index) (op : Operation) (status : Status) (data : List Byte) :
    (demandReply l tag node op status data).tag = tag := by
  cases node <;> rfl

/-- The replies of a withheld entry's queued demands (R117). -/
def Line.purgeReplies (x : Line) (l : LineId) (i : Index) (status : Status) : List Reply :=
  (x.demandQueue.filter fun e => e.node = some i).map fun e => demandReply l e.tag e.node e.operation status []

/-- The reservations of a withheld entry's queued demands. -/
def Line.purgeReserved (x : Line) (i : Index) : Nat :=
  ((x.demandQueue.filter fun e => e.node = some i).map DemandEntry.reserved).sum

theorem foldl_replyEntry_tags (es : List DemandEntry) (l : LineId) (status : Status) (s : State) :
    (es.foldl (fun s e => s.replyEntry l status e) s).tags =
      s.tags.filter fun g => g ∉ (es.map fun e => demandReply l e.tag e.node e.operation status []).map Reply.tag := by
  induction es generalizing s with
  | nil => simp
  | cons e es ih =>
    have one : (s.replyEntry l status e).tags = s.tags.filter (· ≠ e.tag) := (State.queueReply_posts _ _ _).2.2.2.1
    rw [List.foldl_cons, ih, one, List.filter_filter]
    refine List.filter_congr fun g _ => ?_
    simp [demandReply_tag, Bool.and_comm]

/-- What withholding an entry does to the message side: the replies of its queued demands, whose tags leave the registry and whose
reservations are released, and no other notice lost (R117, R157, R158). -/
structure Withholds (s t : State) (rs : List Reply) (n : Nat) (marked : List Subject) : Prop where
  appended : ∃ ms, t.outbound = s.outbound ++ ms ∧ repliesOf ms = rs
  tags : t.tags = s.tags.filter fun g => g ∉ rs.map Reply.tag
  reserved : t.reserved = s.reserved - n
  kept : s.NoticesKept t marked

theorem Withholds.sameMessages {s t u : State} {rs : List Reply} {n : Nat} {marked : List Subject} (h : Withholds s t rs n marked)
    (g : SameMessages t u) : Withholds s u rs n marked :=
  ⟨g.outbound ▸ h.appended, g.tags.trans h.tags, g.reserved.trans h.reserved,
    h.kept.congr rfl rfl (fun _ => rfl) g.notices g.linkErrors g.queued⟩

theorem State.withhold_withholds (s : State) (l : LineId) (i : Index) (m : Node) (status : Status) :
    Withholds s (s.withhold l i m status) ((s.line l).purgeReplies l i status) ((s.line l).purgeReserved i) [] := by
  have settled := s.withhold_settles l i m status
  have base_queued : ∀ sub, State.noticeQueued s sub =
      ((s.setNode i (some m)).updLine l fun x => x.withheld i).noticeQueued sub :=
    State.noticeQueued_congr (by simp)
  refine ⟨?_, ?_, ?_, settled.posts.kept.congr (by simp) (by simp) base_queued rfl rfl fun _ => rfl⟩
  · obtain ⟨ms, hms, hrs⟩ := settled.posts.appended
    exact ⟨ms, by simpa using hms, hrs⟩
  · unfold State.withhold State.purge
    dsimp only
    rw [foldl_replyEntry_tags]
    simp only [State.updLine_tags, State.setNode_tags, State.line_updLine_same, State.line_setNode]
    rfl
  · simpa [Line.purgeReserved] using settled.reserved

/-- A mark after the purge (R97). -/
theorem Withholds.mark {s t : State} {rs : List Reply} {n : Nat} (h : Withholds s t rs n []) (sub : Subject) :
    Withholds s (t.mark sub) rs n [sub] ∧ (t.mark sub).Reported sub ∧
      (s.noticeQueued sub = true → sub ∈ (t.mark sub).notices) := by
  obtain ⟨ms, hms, hrs⟩ := h.appended
  obtain ⟨posts, reported, reserved, tags, -⟩ := t.mark_posts sub
  obtain ⟨ns, hns, hnone⟩ := posts.appended
  refine ⟨⟨⟨ms ++ ns, by rw [hns, hms, List.append_assoc], by simp [hrs, hnone]⟩, tags.trans h.tags, reserved.trans h.reserved,
    h.kept.trans posts.kept hms hns⟩, reported, fun hq => ?_⟩
  exact State.mark_pending_of_queued (State.noticeQueued_append hms hq)

/-! ## The entry into OFFLINE -/

theorem QueueOnly.armRecovery {s t : State} (h : QueueOnly s t) (l : LineId) (i : Index) :
    QueueOnly (s.armRecovery l i) (t.armRecovery l i) := by
  rw [State.armRecovery, State.armRecovery, h.partTime]
  exact h.updLine l _

theorem setRecoveryTimer_withheld (x : Line) (i : Index) (w : Option Word) : (x.withheld i).setRecoveryTimer i w = { x with
    pollTimers := x.pollTimers.set i.val none i.isLt
    recoveryTimers := x.recoveryTimers.set i.val w i.isLt
    dueList := x.dueList.filter fun d => d.index ≠ i
    demandQueue := x.demandQueue.filter fun e => e.node ≠ some i } := by
  simp [Line.setRecoveryTimer, Line.withheld, Line.unschedule, Line.setPollTimer]

/-- What the entry into OFFLINE does (R18): the message side of a withheld entry with a mark, and beside it the entry and its line. -/
theorem State.goOffline_spec (s : State) (l : LineId) (i : Index) (n : Node) :
    let x := s.line l
    Withholds s (s.goOffline l i n) (x.purgeReplies l i .nodeDown) (x.purgeReserved i) [.nodeState i] ∧
      (s.goOffline l i n).Reported (.nodeState i) ∧
      (s.noticeQueued (.nodeState i) = true → Subject.nodeState i ∈ (s.goOffline l i n).notices) ∧
      QueueOnly ((s.setNode i (some { n with failures := n.failures + 1, state := .offline })).setLine l { x with
        pollTimers := x.pollTimers.set i.val none i.isLt
        recoveryTimers := x.recoveryTimers.set i.val (some (s.partTime + x.settings.recovery.setWidth 32)) i.isLt
        dueList := x.dueList.filter fun d => d.index ≠ i
        demandQueue := x.demandQueue.filter fun e => e.node ≠ some i }) (s.goOffline l i n) := by
  intro x
  let down : Node := { n with failures := n.failures + 1, state := .offline }
  let w := s.withhold l i down .nodeDown
  obtain ⟨withholds, reported, pending⟩ := (s.withhold_withholds l i down .nodeDown).mark (.nodeState i)
  have same : SameMessages (w.mark (.nodeState i)) ((w.mark (.nodeState i)).armRecovery l i) := State.updLine_sameMessages _ _ _
  rw [State.goOffline_eq]
  refine ⟨withholds.sameMessages same, ?_, fun h => same.notices ▸ pending h, ?_⟩
  · exact reported.imp (fun g => same.notices ▸ g) fun g => (same.queued _).trans g
  · have core := ((s.withhold_settles l i down .nodeDown).posts.core.trans (w.mark_queueOnly (.nodeState i))).armRecovery l i
    have base : (((s.setNode i (some down)).updLine l fun x => x.withheld i).armRecovery l i) =
        (s.setNode i (some down)).setLine l { x with
          pollTimers := x.pollTimers.set i.val none i.isLt
          recoveryTimers := x.recoveryTimers.set i.val (some (s.partTime + x.settings.recovery.setWidth 32)) i.isLt
          dueList := x.dueList.filter fun d => d.index ≠ i
          demandQueue := x.demandQueue.filter fun e => e.node ≠ some i } := by
      rw [State.armRecovery, State.updLine_updLine]
      simp only [setRecoveryTimer_withheld, State.updLine_partTime, State.setNode_partTime]
      rfl
    exact base ▸ core

/-- Settles O51: the cases of `State.applyOutcome` for a poll or demand. -/
theorem serviceOutcomeMovesNode : Obligations.ServiceOutcomeMovesNode := by
  intro s l i n o hn done unmarked
  refine ⟨fun hm => State.applyOutcome_detached hn hm l false o, fun hm => ?_⟩
  have applied : done = s.applyService l i unmarked o := State.applyOutcome_service hn hm l o
  refine ⟨?_, ?_, fun ho => applied.trans (State.applyService_line s l i unmarked ho), fun ho => ?_⟩
  · rintro content rfl
    exact applied
  · rintro reason rfl
    exact applied
  · rw [State.applyService_failed s l i unmarked ho] at applied
    refine ⟨fun below => applied.trans (if_pos below), fun limit => ?_⟩
    intro x
    obtain ⟨⟨⟨ms, hms, hrs⟩, tags, reserved, kept⟩, reported, pending, core⟩ := s.goOffline_spec l i unmarked
    have offline : done = s.goOffline l i unmarked := applied.trans (if_neg (Nat.not_lt.mpr limit))
    rw [offline]
    exact ⟨⟨ms, hms, hrs, hrs ▸ tags⟩, reserved, reported, kept, pending, core.eq⟩

end Sys2Proof.Machine

/-! SUPPORT. The rows NODE DISABLE and NODE REMOVE (R12, R13, R14). -/

namespace Sys2Proof.Machine

/-! ## The reply after the purge -/

/-- A reply that fills the reservation of its request, after the purge: it stands behind what the purge and the mark or walk after it
appended, and only the reservations of the purged demands are released besides its own. -/
theorem Withholds.answer {s t : State} {rs : List Reply} {n r : Nat} {marked : List Subject} (h : Withholds s t rs n marked)
    {rq : Request} {k : RequestKind} (hk : requestKindOf rq.kind = some k) (hr : s.reserved = r + rq.reservation)
    (status : Status) {data : List Byte} (hlen : 6 + data.length = rq.reservation) :
    ∃ ms, (t.answer rq status data).outbound =
        s.outbound ++ ms ++ [.reply { kind := k.replyKind, tag := rq.tag, status := status, data := data }] ∧
      repliesOf ms = rs ∧ (t.answer rq status data).tags = (s.tags.filter fun g => g ∉ (repliesOf ms).map Reply.tag) ∧
      (t.answer rq status data).reserved = r - n ∧ s.NoticesKept (t.answer rq status data) marked ∧
      (t.answer rq status data).notices = t.notices ∧
      ∀ sub, (t.answer rq status data).noticeQueued sub = t.noticeQueued sub := by
  obtain ⟨ms, hms, hrs⟩ := h.appended
  have left : t.reserved - rq.reservation = r - n := by rw [h.reserved]; omega
  rw [State.answer_exact t hk left status hlen]
  have queued := fun sub => State.noticeQueued_reply (s := t) (t := { t with
    reserved := r - n
    outbound := t.outbound ++ [.reply { kind := k.replyKind, tag := rq.tag, status := status, data := data }] }) rfl sub
  exact ⟨ms, by rw [← hms], hrs, hrs ▸ h.tags, rfl, h.kept.congr rfl rfl (fun _ => rfl) rfl rfl queued, rfl, queued⟩

theorem Line.withheld_eq (x : Line) (i : Index) : x.withheld i = { x with
    pollTimers := x.pollTimers.set i.val none i.isLt
    recoveryTimers := x.recoveryTimers.set i.val none i.isLt
    dueList := x.dueList.filter fun d => d.index ≠ i
    demandQueue := x.demandQueue.filter fun e => e.node ≠ some i } := rfl

/-! ## NODE DISABLE -/

theorem State.nodeDisable_of_none {s : State} {i : Index} (h : s.liveNode i = none) (rq : Request) :
    s.nodeDisable rq i = s.answer rq .noSuchNode [byteOf i] := by
  unfold State.nodeDisable
  rw [h]

theorem State.nodeDisable_of_disabled {s : State} {i : Index} {n : Node} (h : s.liveNode i = some n) (hs : n.state = .disabled)
    (rq : Request) : s.nodeDisable rq i = s.answer rq .ok [byteOf i] := by
  unfold State.nodeDisable
  rw [h]
  exact if_pos hs

theorem TransactionMark.detach_eq (m : TransactionMark) : m.detach = if m = .attached then .detached else m := by
  cases m <;> rfl

/-- Beside the message side, a request that withholds an entry changes the entry, its line, and the indicators of a change. -/
theorem State.withheld_reported_eq (s : State) (id : SlotId) (l : LineId) (i : Index) (m : Option Node) :
    (((s.taken id).setNode i m).updLine l fun x => x.withheld i).reportChange =
      { ((s.taken id).setNode i m).setLine l ((s.line l).withheld i) with
        configChanged := true, changedAfterCapture := s.changedAfterCapture || s.saving } := by
  cases id <;> cases l <;> rfl

/-- Settles O17: NODE DISABLE withholds the entry, marks NODE STATE and replies. -/
theorem nodeDisableWithholdsNode : Obligations.NodeDisableWithholdsNode := by
  intro s id rq i hready hbody
  have hkind := hready.2.2.1
  have hres : rq.reservation = 7 := reservation_of_kind hkind
  have hlen : 6 + [byteOf i.val].length = rq.reservation := by rw [hres]; rfl
  rw [exec_nodeDisable_ready hready hbody]
  refine ⟨fun hnone => ?_, fun n hlive => ?_⟩
  · rw [State.nodeDisable_of_none (by rw [State.liveNode_accept]; exact hnone), s.accept_answer_of_kind id hkind _ hlen]
    rfl
  rw [← s.liveNode_accept id rq] at hlive
  refine ⟨fun hs => ?_, fun hs => ?_⟩
  · rw [State.nodeDisable_of_disabled hlive hs, s.accept_answer_of_kind id hkind _ hlen]
    rfl
  intro l x
  let a := s.accept id rq
  let w := a.withhold l i n.disable .nodeDisabled
  let u := (w.mark (.nodeState i)).reportChange
  have line_a : a.line l = x := State.line_accept s id rq l
  have queued_a : ∀ sub, s.noticeQueued sub = a.noticeQueued sub := State.noticeQueued_congr (by simp [a])
  obtain ⟨withholds, reported, pending⟩ := (a.withhold_withholds l i n.disable .nodeDisabled).mark (.nodeState i)
  obtain ⟨ms, hout, hrs, htags, hreserved, hkept, hnotices, hqueued⟩ :=
    (withholds.sameMessages (State.reportChange_sameMessages _)).answer hkind (s.accept_reserved id rq) .ok hlen
  have core : QueueOnly ((((s.taken id).setNode i (some n.disable)).updLine l fun x => x.withheld i).reportChange)
      (u.answer rq .ok [byteOf i]) := by
    have taken := (((s.taken_queueOnly_accept id rq).setNode i (some n.disable)).updLine l fun x => x.withheld i)
    have marked := (a.withhold_settles l i n.disable .nodeDisabled).posts.core.trans (w.mark_queueOnly (.nodeState i))
    exact (taken.trans marked).reportChange.trans (u.answer_queueOnly rq .ok _)
  rw [State.withheld_reported_eq, Line.withheld_eq] at core
  refine ⟨u.answer rq .ok [byteOf i], ms, by rw [State.nodeDisable_eq _ rq hlive hs], ?_, ?_, ?_, ?_, ?_, ?_, fun hq => ?_, ?_⟩
  · rw [hout]; simp [a]; rfl
  · rw [hrs, line_a]; rfl
  · rw [htags]; simp [a]
  · rw [hreserved, line_a]; rfl
  · exact reported.imp (fun g => hnotices ▸ g) fun g => (hqueued _).trans g
  · exact hkept.congr (by simp [a]) (by simp [a]) queued_a rfl rfl fun _ => rfl
  · exact hnotices ▸ pending (by rw [← queued_a]; exact hq)
  · rw [← TransactionMark.detach_eq]
    exact core.eq

/-! ## NODE REMOVE -/

theorem State.nodeRemove_of_none {s : State} {i : Index} (h : s.liveNode i = none) (rq : Request) :
    s.nodeRemove rq i = s.answer rq .noSuchNode [byteOf i] := by
  unfold State.nodeRemove
  rw [h]

/-- The pending notices that stay when those of an index are withdrawn (R103). -/
def State.without (s : State) (i : Index) : State :=
  { s with notices := s.notices.filter fun sub => sub ≠ Subject.nodeState i && sub ≠ Subject.change i }

theorem State.withdraw_eq (s : State) (i : Index) : s.withdraw i = (s.without i).walk := rfl

/-- A withdrawal after the purge (R103). -/
theorem Withholds.withdraw {s t : State} {rs : List Reply} {n : Nat} (h : Withholds s t rs n []) (i : Index) :
    Withholds (s.without i) (t.withdraw i) rs n [] := by
  obtain ⟨ms, hms, hrs⟩ := h.appended
  obtain ⟨posts, -, reserved, tags, -⟩ := (t.without i).walk_posts
  obtain ⟨ns, hns, hnone⟩ := posts.appended
  have filtered : (s.without i).NoticesKept (t.without i) [] := by
    refine ⟨fun sub g => ?_, ?_, h.kept.count⟩
    · rcases g with g | g
      · obtain ⟨hs, hp⟩ := List.mem_filter.mp g
        exact (h.kept.reported sub (.inl hs)).imp (fun ht => List.mem_filter.mpr ⟨ht, hp⟩) id
      · exact .inr (State.noticeQueued_append hms g)
    · simpa [State.without] using List.Sublist.filter _ (show t.notices.Sublist s.notices by simpa using h.kept.order)
  rw [State.withdraw_eq]
  exact ⟨⟨ms ++ ns, by rw [hns, ← List.append_assoc]; exact congrArg (· ++ ns) hms, by simp [hrs, hnone]⟩, tags.trans h.tags,
    reserved.trans h.reserved, filtered.trans posts.kept hms hns⟩

/-- The entry that NODE REMOVE leaves: none, or one that waits for its transaction (R13, R14). -/
def Node.afterRemove (n : Node) : Option Node :=
  if n.mark = .none then none else some { n with state := .removing, mark := .detached }

theorem State.nodeRemove_of_live {s : State} {i : Index} {n : Node} (h : s.liveNode i = some n) (rq : Request) :
    s.nodeRemove rq i = (s.removed rq i n).setNode i n.afterRemove := by
  rw [State.nodeRemove_eq s rq h, Node.afterRemove]
  split
  · rfl
  · rename_i hm
    have waits : (s.removed rq i n).node i = some { n with state := .removing, mark := .detached } := by
      rw [(s.removed_spec rq i n).1, Node.remove, TransactionMark.detach_of_ne_none hm]
    exact (State.setNode_self waits).symm

/-- Beside the message side, NODE REMOVE changes the entry, its snapshot, its line, and the indicators of a change. -/
theorem State.removed_reported_eq (s : State) (id : SlotId) (l : LineId) (i : Index) (m : Option Node) (k : Option Node) :
    (((((s.taken id).setNode i m).updLine l fun x => x.withheld i).setSnapshot i none).reportChange).setNode i k =
      { (((s.taken id).setNode i k).setSnapshot i none).setLine l ((s.line l).withheld i) with
        configChanged := true, changedAfterCapture := s.changedAfterCapture || s.saving } := by
  cases id <;> cases l <;> simp [State.setNode, State.setSnapshot, State.updLine, State.setLine, State.reportChange, State.taken,
    State.setSlot, State.saving, State.line]

/-- Settles O15: NODE REMOVE withholds the entry, withdraws its notices, discards its snapshot, replies, and frees it unless a
transaction refers to it. -/
theorem nodeRemoveFreesOrWaits : Obligations.NodeRemoveFreesOrWaits := by
  refine ⟨fun s i n => s.liveNode_iff i n, ?_⟩
  intro s id rq i hready hbody
  have hkind := hready.2.2.1
  have hres : rq.reservation = 7 := reservation_of_kind hkind
  have hlen : 6 + [byteOf i.val].length = rq.reservation := by rw [hres]; rfl
  rw [exec_nodeRemove_ready hready hbody]
  refine ⟨fun hnone => ?_, fun n hlive => ?_⟩
  · rw [State.nodeRemove_of_none (by rw [State.liveNode_accept]; exact hnone), s.accept_answer_of_kind id hkind _ hlen]
    rfl
  rw [← s.liveNode_accept id rq] at hlive
  intro l x
  let a := s.accept id rq
  let w := a.withhold l i n.remove .nodeRemoved
  let u := ((w.withdraw i).setSnapshot i none).reportChange
  let t := (a.removed rq i n).setNode i n.afterRemove
  have line_a : a.line l = x := State.line_accept s id rq l
  have queued_a : ∀ sub, s.noticeQueued sub = a.noticeQueued sub := State.noticeQueued_congr (by simp [a])
  have withholds : Withholds (a.without i) u (x.purgeReplies l i .nodeRemoved) (x.purgeReserved i) [] :=
    line_a ▸ ((a.withhold_withholds l i n.remove .nodeRemoved).withdraw i).sameMessages
      ((State.setSnapshot_sameMessages _ i none).trans (State.reportChange_sameMessages _))
  obtain ⟨ms, hout, hrs, htags, hreserved, hkept, hnotices, hqueued⟩ :=
    withholds.answer hkind (s.accept_reserved id rq) .ok hlen
  obtain ⟨-, -, notPending, -⟩ := a.removed_spec rq i n
  have core : QueueOnly ((((((s.taken id).setNode i (some n.remove)).updLine l fun x => x.withheld i).setSnapshot i
      none).reportChange).setNode i n.afterRemove) t := by
    have taken := ((s.taken_queueOnly_accept id rq).setNode i (some n.remove)).updLine l fun x => x.withheld i
    have withdrawn := (a.withhold_settles l i n.remove .nodeRemoved).posts.core.trans (w.withdraw_queueOnly i)
    exact (((taken.trans withdrawn).setSnapshot i none).reportChange.trans (u.answer_queueOnly rq .ok _)).setNode i _
  rw [State.removed_reported_eq, Line.withheld_eq] at core
  refine ⟨t, ms, by rw [State.nodeRemove_of_live hlive], ?_, hrs, ?_, hreserved, ?_, fun h => notPending (.inl h),
    fun h => notPending (.inr h), core.eq⟩
  · refine hout.trans ?_
    simp [State.without, a]
    rfl
  · refine htags.trans ?_
    simp [State.without, a]
  · exact hkept.congr (by simp [State.without, a]) (by simp [State.without, a]) queued_a rfl rfl fun _ => rfl

end Sys2Proof.Machine

/-! SUPPORT. The outcomes of recovery probes and of scan probes (R20, R128, R129). -/

namespace Sys2Proof.Machine

/-! ## Recovery probes -/

theorem State.applyProbe_failed (s : State) (l : LineId) (i : Index) (n : Node) {o : FieldOutcome}
    (h : o = .timeout ∨ o = .corrupt ∨ o = .collision ∨ o = .lineOff ∨ o = .lineFault) :
    s.applyProbe l i n o = (s.setNode i (some n)).armRecovery l i := by
  rcases h with rfl | rfl | rfl | rfl | rfl <;> rfl

/-- The line of a node that comes back: its recovery timer stops, and with a descriptor it is due at once (R20). -/
theorem State.comeBack_eq (s : State) (l : LineId) (i : Index) (n : Node) : s.comeBack l i n =
    ((s.setNode i (some n)).mark (.nodeState i)).updLine l fun x => { x with
      recoveryTimers := x.recoveryTimers.set i.val none i.isLt
      dueList := if n.config.descriptor.isSome then
        joinDue x.dueList { index := i, kind := .poll, due := s.partTime } else x.dueList } := by
  have partTime : ((s.setNode i (some n)).mark (.nodeState i)).partTime = s.partTime :=
    (State.mark_queueOnly _ _).partTime
  unfold State.comeBack
  dsimp only
  cases hd : n.config.descriptor with
  | none => rfl
  | some d =>
    simp only [Option.isSome_some, if_true, State.makeDue, State.updLine_updLine, State.updLine_partTime, partTime]
    rfl

/-! ## Scan probes -/

theorem State.deliver_scanProbe (s : State) (l : LineId) {t : Transaction} (ht : t.kind = .scanProbe) (o : FieldOutcome) :
    s.deliver l t o = s.scanResult l t.target o := by
  unfold State.deliver
  rw [ht]

theorem State.scanResult_of_some {s : State} {l : LineId} {j : ScanJob} (hj : (s.line l).scan = some j) (address : Byte)
    (o : FieldOutcome) :
    let k := j.record address o
    let u := s.updLine l fun x => { x with scan := some k }
    s.scanResult l address o = if o = .lineOff ∨ o = .lineFault then u else k.ending.elim u (u.endScan l) := by
  unfold State.scanResult
  rw [hj]
  dsimp only
  cases (j.record address o).ending <;> rfl

/-- The four tests of R129, in their order. -/
theorem ScanJob.ending_eq (j : ScanJob) : j.ending =
    if j.abort = true then some .aborted else if 16 ≤ j.found.length then some .listFull
    else if j.last.toNat < j.next.toNat then some .ok else none := rfl

/-- How a delivered scan probe leaves its job, once the result is recorded (R128, R129). -/
theorem State.scanResult_recorded {s : State} {l : LineId} {j k : ScanJob} (hj : (s.line l).scan = some j) {address : Byte}
    {o : FieldOutcome} (hk : j.record address o = k) :
    let u := s.updLine l fun x => { x with scan := some k }
    (o = .lineOff ∨ o = .lineFault → s.scanResult l address o = u) ∧
    (o ≠ .lineOff → o ≠ .lineFault →
      (k.abort = true → s.scanResult l address o = u.endScan l .aborted) ∧
      (k.abort = false → 16 ≤ k.found.length → s.scanResult l address o = u.endScan l .listFull) ∧
      (k.abort = false → k.found.length < 16 → k.last.toNat < k.next.toNat → s.scanResult l address o = u.endScan l .ok) ∧
      (k.abort = false → k.found.length < 16 → k.next.toNat ≤ k.last.toNat → s.scanResult l address o = u)) := by
  intro u
  rw [State.scanResult_of_some hj, hk]
  refine ⟨fun ho => if_pos ho, fun h1 h2 => ?_⟩
  rw [if_neg (not_or.mpr ⟨h1, h2⟩), ScanJob.ending_eq]
  refine ⟨fun ha => ?_, fun ha hf => ?_, fun ha hf hn => ?_, fun ha hf hn => ?_⟩
  · rw [if_pos ha, Option.elim_some]
  · rw [if_neg (by simp [ha]), if_pos hf, Option.elim_some]
  · rw [if_neg (by simp [ha]), if_neg (Nat.not_le.mpr hf), if_pos hn, Option.elim_some]
  · rw [if_neg (by simp [ha]), if_neg (Nat.not_le.mpr hf), if_neg (Nat.not_lt.mpr hn), Option.elim_none]

/-- Settles O53: the cases of `State.applyOutcome` for a recovery probe, and of `State.scanResult` for a scan probe. -/
theorem probeOutcomesRecorded : Obligations.ProbeOutcomesRecorded := by
  refine ⟨fun s l j status hj => ⟨rfl, ?_⟩, fun s l i n m o hn hm => ?_, fun s l t j o ht hj => ?_⟩
  · unfold State.endScan
    rw [hj]
    cases l <;> rfl
  · intro unmarked
    rw [State.applyOutcome_probe hn hm]
    refine ⟨fun h => ?_, fun ho => State.applyProbe_failed s l i unmarked ho⟩
    rcases h with ⟨⟨content, rfl⟩, rfl⟩ | ⟨reason, rfl, rfl⟩
    · exact s.comeBack_eq l i unmarked.answeredOk
    · exact s.comeBack_eq l i (unmarked.answeredException reason)
  · intro settled recorded
    have delivered : ∀ k, j.record t.target o = k → recorded k := fun k hk => by
      simp only [recorded, State.deliver_scanProbe s l ht]
      exact State.scanResult_recorded hj hk
    refine ⟨?_, ?_, ?_, ?_⟩
    · rintro high low rfl
      exact delivered _ rfl
    · rintro reason rfl
      exact delivered _ rfl
    · rintro (rfl | rfl) <;> exact delivered _ rfl
    · rintro (rfl | rfl | rfl) <;> exact delivered _ rfl

end Sys2Proof.Machine

/-! SUPPORT. The host frames and their bodies: what each parser reads, and of which bytes (R8, R53, R109, R148, R162, R163). -/

namespace Sys2Proof.Machine

/-! ## Bytes, halves and words -/

theorem byteOf_toNat (b : Byte) : byteOf b.toNat = b :=
  (BitVec.ofNat_toNat 8 b).trans (BitVec.setWidth_eq b)

theorem toNat_byteOf {n : Nat} (h : n < 256) : (byteOf n).toNat = n := by
  rw [byteOf, BitVec.toNat_ofNat, Nat.mod_eq_of_lt h]

/-- Eight bits of a vector, as the byte of a quotient. -/
theorem extractLsb'_eq_byteOf {w : Nat} (v : BitVec w) (k : Nat) : v.extractLsb' k 8 = byteOf (v.toNat / 2 ^ k) := by
  apply BitVec.eq_of_toNat_eq
  rw [BitVec.extractLsb'_toNat, Nat.shiftRight_eq_div_pow, byteOf, BitVec.toNat_ofNat]

theorem halfBytes_eq (v : Half) : halfBytes v = [byteOf (v.toNat / 256), byteOf v.toNat] := by
  simp only [halfBytes, extractLsb'_eq_byteOf, Nat.reducePow, Nat.div_one]

theorem wordBytes_eq (v : Word) : wordBytes v =
    [byteOf (v.toNat / 16777216), byteOf (v.toNat / 65536), byteOf (v.toNat / 256), byteOf v.toNat] := by
  simp only [wordBytes, extractLsb'_eq_byteOf, Nat.reducePow, Nat.div_one]

theorem halfOf_toNat (high low : Byte) : (halfOf high low).toNat = 256 * high.toNat + low.toNat := by
  rw [halfOf, BitVec.toNat_append, ← Nat.shiftLeft_add_eq_or_of_lt low.isLt, Nat.shiftLeft_eq, Nat.mul_comm]

@[simp] theorem halfBytes_halfOf (high low : Byte) : halfBytes (halfOf high low) = [high, low] := by
  have low_lt := low.isLt
  rw [halfBytes_eq, halfOf_toNat]
  congr 1
  · rw [show (256 * high.toNat + low.toNat) / 256 = high.toNat by omega, byteOf_toNat]
  · congr 1
    apply BitVec.eq_of_toNat_eq
    rw [byteOf, BitVec.toNat_ofNat]
    omega

/-- A half's two bytes, read back. -/
theorem halfBytes_pair (v : Half) : ∃ high low, halfBytes v = [high, low] ∧ halfOf high low = v := by
  refine ⟨_, _, halfBytes_eq v, BitVec.eq_of_toNat_eq ?_⟩
  have v_lt := v.isLt
  rw [halfOf_toNat, byteOf, byteOf, BitVec.toNat_ofNat, BitVec.toNat_ofNat]
  omega

/-! ## The CRC -/

theorem withCrc_eq (bytes : List Byte) :
    ∃ high low, withCrc bytes = bytes ++ [high, low] ∧ (crc bytes).toNat = 256 * high.toNat + low.toNat := by
  obtain ⟨high, low, bytes_eq, read⟩ := halfBytes_pair (crc bytes)
  exact ⟨high, low, by rw [withCrc, bytes_eq], by rw [← read, halfOf_toNat]⟩

theorem crcBit_eq (r : Half) (bit : Bool) :
    crcBit r bit = if r.getLsbD 15 = bit then r <<< 1 else (r <<< 1) ^^^ 0x1021 := by
  rw [crcBit, BitVec.msb_eq_getLsbD_last]
  simp

theorem crc_concat (bytes : List Byte) (b : Byte) : crc (bytes ++ [b]) = [7, 6, 5, 4, 3, 2, 1, 0].foldl
    (fun (r : Half) k => if r.getLsbD 15 = b.getLsbD k then r <<< 1 else (r <<< 1) ^^^ 0x1021) (crc bytes) := by
  have last : crc (bytes ++ [b]) = crcByte (crc bytes) b := by simp [crc]
  rw [last, crcByte]
  simp only [crcBit_eq]

/-! ## Request frames -/

@[simp] theorem length_withCrc (bytes : List Byte) : (withCrc bytes).length = bytes.length + 2 := by
  simp [withCrc, halfBytes]

theorem take_withCrc (bytes : List Byte) : (withCrc bytes).take ((withCrc bytes).length - 2) = bytes := by
  rw [length_withCrc, Nat.add_sub_cancel, withCrc, List.take_left]

theorem Request.frame_eq (r : Request) :
    r.frame = byteOf (5 + r.body.length) :: r.kind :: r.tag :: (r.body ++ halfBytes (crc
      (byteOf (5 + r.body.length) :: r.kind :: r.tag :: r.body))) := rfl

theorem frameAccepted_cons {len : Byte} {rest : List Byte} : frameAccepted (len :: rest) = true ↔
    5 ≤ len.toNat ∧ len.toNat ≤ Config.slotCapacity ∧ len.toNat = (len :: rest).length ∧
      withCrc ((len :: rest).take ((len :: rest).length - 2)) = len :: rest := by
  simp only [frameAccepted, Bool.and_eq_true, decide_eq_true_eq, and_assoc]

theorem Request.frameAccepted_frame {r : Request} (h : r.body.length ≤ 58) : frameAccepted r.frame = true := by
  have len : (byteOf (5 + r.body.length)).toNat = 5 + r.body.length := toNat_byteOf (by omega)
  have length : r.frame.length = 5 + r.body.length := by simp [Request.frame]; omega
  have checked : withCrc (r.frame.take (r.frame.length - 2)) = r.frame := by rw [Request.frame, take_withCrc]
  rw [Request.frame_eq] at checked length ⊢
  exact frameAccepted_cons.mpr ⟨by omega, by rw [len, Config.slotCapacity]; omega, len.trans length.symm, checked⟩

theorem Request.requestOf_frame (r : Request) : requestOf r.frame = some r := by
  rw [Request.frame_eq, requestOf]
  simp [halfBytes]

/-! ## Fields -/

theorem requestKindOf_eq_some_iff (b : Byte) (k : RequestKind) : requestKindOf b = some k ↔ b = k.code := by
  refine ⟨kind_of_requestKindOf, ?_⟩
  rintro rfl
  cases k <;> rfl

theorem lineOf_eq_some_iff {b : Byte} {l : LineId} : lineOf b = some l ↔ b = lineCode l := by
  unfold lineOf
  constructor
  · intro h
    split at h
    · cases h; assumption
    · split at h
      · cases h; assumption
      · cases h
  · rintro rfl
    cases l <;> rfl

theorem indexOf_eq_some_iff {b : Byte} {i : Index} : indexOf b = some i ↔ b = byteOf i.val := by
  unfold indexOf
  constructor
  · intro h
    split at h
    · cases h; exact (byteOf_toNat b).symm
    · cases h
  · rintro rfl
    have value : (byteOf i.val).toNat = i.val := toNat_byteOf (by omega)
    simp [value]

theorem clearOf_eq_some_iff {b : Byte} {clear : Bool} : clearOf b = some clear ↔ b = if clear then 1 else 0 := by
  unfold clearOf
  constructor
  · intro h
    split at h
    · cases h; assumption
    · split at h
      · cases h; assumption
      · cases h
  · rintro rfl
    cases clear <;> rfl

@[simp] theorem lineOf_lineCode (l : LineId) : lineOf (lineCode l) = some l := lineOf_eq_some_iff.mpr rfl

@[simp] theorem indexOf_byteOf (i : Index) : indexOf (byteOf i.val) = some i := indexOf_eq_some_iff.mpr rfl

theorem inRange_eq_true_iff {n low high : Nat} : inRange n low high = true ↔ low ≤ n ∧ n ≤ high := by
  simp [inRange]

/-! ## Short bodies -/

theorem emptyBody_eq_some_iff (body : List Byte) : emptyBody body = some () ↔ body = [] := by
  cases body <;> simp [emptyBody]

theorem lineBody_eq_some_iff (body : List Byte) (l : LineId) : lineBody body = some l ↔ body = [lineCode l] := by
  constructor
  · unfold lineBody
    split
    · simp [lineOf_eq_some_iff]
    · simp
  · rintro rfl
    exact lineOf_lineCode l

theorem indexBody_eq_some_iff (body : List Byte) (i : Index) : indexBody body = some i ↔ body = [byteOf i.val] := by
  constructor
  · unfold indexBody
    split
    · simp [indexOf_eq_some_iff]
    · simp
  · rintro rfl
    exact indexOf_byteOf i

theorem lineInfoBody_eq_some_iff (body : List Byte) (l : LineId) (clear : Bool) :
    lineInfoBody body = some (l, clear) ↔ body = [lineCode l, if clear then 1 else 0] := by
  constructor
  · unfold lineInfoBody
    split
    · simp +contextual [Option.bind_eq_some_iff, lineOf_eq_some_iff, clearOf_eq_some_iff]
    · simp
  · rintro rfl
    simp [lineInfoBody, clearOf_eq_some_iff]

theorem nodeInfoBody_eq_some_iff (body : List Byte) (i : Index) (clear : Bool) :
    nodeInfoBody body = some (i, clear) ↔ body = [byteOf i.val, if clear then 1 else 0] := by
  constructor
  · unfold nodeInfoBody
    split
    · simp +contextual [Option.bind_eq_some_iff, indexOf_eq_some_iff, clearOf_eq_some_iff]
    · simp
  · rintro rfl
    simp [nodeInfoBody, clearOf_eq_some_iff]

theorem cancelBody_eq_some_iff (body : List Byte) (tag : Byte) : cancelBody body = some tag ↔ body = [tag] := by
  constructor
  · unfold cancelBody
    split <;> simp
  · rintro rfl
    rfl

/-! ## LINE SET and SCAN START -/

theorem LineSettings.inRange_iff (x : LineSettings) : x.inRange = true ↔
    x.rate.toNat ≤ 6 ∧ x.guardTime.toNat ≤ 20 ∧ 100 ≤ x.recovery.toNat ∧ x.recovery.toNat ≤ 60000 ∧
      1 ≤ x.settle.toNat ∧ x.settle.toNat ≤ 100 := by
  simp [LineSettings.inRange, inRange_eq_true_iff, and_assoc]

theorem lineSetBody_eq_some_iff (body : List Byte) (l : LineId) (x : LineSettings) : lineSetBody body = some (l, x) ↔
    x.inRange = true ∧ body = [lineCode l, x.rate, x.guardTime] ++ halfBytes x.recovery ++ [x.settle] := by
  constructor
  · unfold lineSetBody
    split
    · dsimp only
      split
      · rename_i good
        intro h
        obtain ⟨line, hl, ⟨⟩⟩ := Option.map_eq_some_iff.mp h
        exact ⟨good, by simp [lineOf_eq_some_iff.mp hl]⟩
      · rintro ⟨⟩
    · rintro ⟨⟩
  · rintro ⟨good, rfl⟩
    obtain ⟨high, low, bytes, read⟩ := halfBytes_pair x.recovery
    simp [bytes, lineSetBody, read, good]

theorem scanStartBody_eq_some_iff (body : List Byte) (l : LineId) (first last timeout : Byte) :
    scanStartBody body = some (l, first, last, timeout) ↔
      (1 ≤ first.toNat ∧ first.toNat ≤ last.toNat ∧ last.toNat ≤ 247 ∧ 1 ≤ timeout.toNat ∧ timeout.toNat ≤ 250) ∧
      body = [lineCode l, first, last, timeout] := by
  have good_iff : ∀ first last timeout : Byte,
      (addressInRange first && addressInRange last && first.toNat ≤ last.toNat && inRange timeout.toNat 1 250) = true ↔
      1 ≤ first.toNat ∧ first.toNat ≤ last.toNat ∧ last.toNat ≤ 247 ∧ 1 ≤ timeout.toNat ∧ timeout.toNat ≤ 250 := by
    intro first last timeout
    simp only [addressInRange, Bool.and_eq_true, inRange_eq_true_iff, decide_eq_true_eq]
    omega
  constructor
  · unfold scanStartBody
    split
    · split
      · rename_i good
        intro h
        obtain ⟨line, hl, ⟨⟩⟩ := Option.map_eq_some_iff.mp h
        exact ⟨(good_iff _ _ _).mp good, by rw [lineOf_eq_some_iff.mp hl]⟩
      · rintro ⟨⟩
    · rintro ⟨⟩
  · rintro ⟨good, rfl⟩
    rw [scanStartBody, if_pos ((good_iff _ _ _).mpr good), lineOf_lineCode]
    rfl

/-! ## DEMAND and BROADCAST -/

theorem operationBody_eq_some_iff (body : List Byte) (op : Operation) :
    operationBody body = some op ↔ op.admitted ∧ body = op.bytes := by
  constructor
  · unfold operationBody
    split
    · rintro ⟨⟩
      exact ⟨trivial, rfl⟩
    · split
      · rename_i good
        rintro ⟨⟩
        simp only [Bool.and_eq_true, inRange_eq_true_iff, List.isEmpty_iff] at good
        obtain ⟨range, rfl⟩ := good
        exact ⟨range, by simp [Operation.bytes]⟩
      · rintro ⟨⟩
    · split
      · rename_i good
        rintro ⟨⟩
        simp only [Bool.and_eq_true, inRange_eq_true_iff, decide_eq_true_eq, and_assoc] at good
        exact ⟨good, by simp [Operation.bytes]⟩
      · rintro ⟨⟩
    · rintro ⟨⟩
  · rintro ⟨good, rfl⟩
    cases op with
    | ping => rfl
    | read start count =>
      obtain ⟨high, low, bytes, rfl⟩ := halfBytes_pair start
      have range : inRange count.toNat 1 24 = true := inRange_eq_true_iff.mpr good
      simp [Operation.bytes, operationBody, range]
    | write start count data =>
      obtain ⟨high, low, bytes, rfl⟩ := halfBytes_pair start
      obtain ⟨least, most, length⟩ := good
      have range : inRange count.toNat 1 22 = true := inRange_eq_true_iff.mpr ⟨least, most⟩
      simp [Operation.bytes, operationBody, range, length]

theorem demandBody_eq_some_iff (body : List Byte) (i : Index) (op : Operation) :
    demandBody body = some (i, op) ↔ op.admitted ∧ body = byteOf i.val :: op.bytes := by
  cases body with
  | nil => simp [demandBody]
  | cons b rest => simp [demandBody, Option.bind_eq_some_iff, indexOf_eq_some_iff, operationBody_eq_some_iff, and_left_comm]

/-- A BROADCAST carries the WRITE of a DEMAND, with its line in place of the index and the operation (R114). -/
theorem broadcastBody_eq_some_iff (body : List Byte) (l : LineId) (op : Operation) : broadcastBody body = some (l, op) ↔
    ∃ start count data, op = .write start count data ∧ op.admitted ∧
      body = [lineCode l] ++ halfBytes start ++ [count] ++ data := by
  constructor
  · unfold broadcastBody
    split
    · split
      · rename_i good
        intro h
        obtain ⟨line, hl, ⟨⟩⟩ := Option.map_eq_some_iff.mp h
        simp only [Bool.and_eq_true, inRange_eq_true_iff, decide_eq_true_eq, and_assoc] at good
        exact ⟨_, _, _, rfl, good, by simp [lineOf_eq_some_iff.mp hl]⟩
      · rintro ⟨⟩
    · rintro ⟨⟩
  · rintro ⟨start, count, data, rfl, ⟨least, most, length⟩, rfl⟩
    obtain ⟨high, low, bytes, rfl⟩ := halfBytes_pair start
    have range : inRange count.toNat 1 22 = true := inRange_eq_true_iff.mpr ⟨least, most⟩
    simp [broadcastBody, range, length]

/-! ## NODE ADD and NODE SET -/

theorem NodeConfig.inRange_iff (c : NodeConfig) : c.inRange = true ↔
    1 ≤ c.address.toNat ∧ c.address.toNat ≤ 247 ∧ (∀ d, c.descriptor = some d → 1 ≤ d.count.toNat ∧ d.count.toNat ≤ 24) ∧
      10 ≤ c.period.toNat ∧ c.period.toNat ≤ 60000 ∧ 1 ≤ c.timeout.toNat ∧ c.timeout.toNat ≤ 250 ∧ c.retries.toNat ≤ 3 ∧
      1 ≤ c.limit.toNat ∧ c.limit.toNat ≤ 15 := by
  simp [NodeConfig.inRange, addressInRange, PollDescriptor.inRange, inRange_eq_true_iff, Option.all_eq_true, and_assoc]

/-- The flags byte of NODE ADD (R163 note 1). -/
def nodeAddFlags (descriptor timed notify startDisabled : Bool) : Byte :=
  (if descriptor then 1 else 0) + (if timed then 2 else 0) + (if notify then 4 else 0) + (if startDisabled then 8 else 0)

theorem nodeAddFlags_bits (descriptor timed notify startDisabled : Bool) :
    let b := nodeAddFlags descriptor timed notify startDisabled
    b.toNat < 16 ∧ b.getLsbD 0 = descriptor ∧ b.getLsbD 1 = timed ∧ b.getLsbD 2 = notify ∧ b.getLsbD 3 = startDisabled := by
  revert descriptor timed notify startDisabled
  decide

theorem nodeAddFlags_of_bits {b : Byte} (h : b.toNat < 16) :
    b = nodeAddFlags (b.getLsbD 0) (b.getLsbD 1) (b.getLsbD 2) (b.getLsbD 3) := by
  have small : ∀ k : Fin 16, byteOf k = nodeAddFlags ((byteOf k).getLsbD 0) ((byteOf k).getLsbD 1) ((byteOf k).getLsbD 2)
      ((byteOf k).getLsbD 3) := by decide
  simpa [byteOf_toNat] using small ⟨b.toNat, h⟩

/-- The bytes of the descriptor group (R8, R163). -/
def descriptorBytes : Option PollDescriptor → List Byte
  | some d => halfBytes d.start ++ [d.count]
  | none => []

/-- The bytes of the timing group (R8, R163). -/
def Timing.bytes (t : Timing) : List Byte := halfBytes t.period ++ [t.timeout, t.retries, t.limit]

/-- The timing values of a configuration. -/
def NodeConfig.timing (c : NodeConfig) : Timing :=
  { period := c.period, timeout := c.timeout, retries := c.retries, limit := c.limit }

theorem nodeBytes_eq (c : NodeConfig) (disabled timed : Bool) : nodeBytes c disabled timed =
    c.address :: lineCode c.line :: nodeAddFlags c.descriptor.isSome timed c.notify disabled ::
      (descriptorBytes c.descriptor ++ if timed then c.timing.bytes else []) := by
  unfold nodeBytes
  cases c.descriptor <;> rfl

theorem descriptorGroup_eq_some_iff {present : Bool} {body rest : List Byte} {d : Option PollDescriptor} :
    descriptorGroup present body = some (d, rest) ↔ d.isSome = present ∧ body = descriptorBytes d ++ rest := by
  constructor
  · unfold descriptorGroup
    split
    · rename_i h
      subst h
      dsimp only
      split
      · rintro ⟨⟩
        exact ⟨rfl, by simp [descriptorBytes]⟩
      · rintro ⟨⟩
    · rename_i h
      rintro ⟨⟩
      exact ⟨by simpa using h, rfl⟩
  · rintro ⟨rfl, rfl⟩
    cases d with
    | none => rfl
    | some d =>
      obtain ⟨high, low, bytes, read⟩ := halfBytes_pair d.start
      simp [descriptorGroup, descriptorBytes, bytes, read]

theorem timingGroup_eq_some_iff {present : Bool} {body : List Byte} {t : Timing} : timingGroup present body = some t ↔
    (body = if present then t.bytes else []) ∧ (present = false → t = Timing.default) := by
  constructor
  · unfold timingGroup
    split
    · rename_i h
      subst h
      dsimp only
      split
      · rintro ⟨⟩
        exact ⟨by simp [Timing.bytes], by simp⟩
      · rintro ⟨⟩
    · rename_i h
      dsimp only
      split
      · rintro ⟨⟩
        exact ⟨by simp, fun _ => rfl⟩
      · rintro ⟨⟩
  · rintro ⟨rfl, plain⟩
    cases present with
    | false => rw [plain rfl]; rfl
    | true =>
      obtain ⟨high, low, bytes, read⟩ := halfBytes_pair t.period
      simp [timingGroup, Timing.bytes, bytes, read]

theorem nodeBody_eq_some_iff (body : List Byte) (c : NodeConfig) (disabled : Bool) : nodeBody body = some (c, disabled) ↔
    c.inRange = true ∧ ∃ timed, body = nodeBytes c disabled timed ∧ (timed = false → c.timing = Timing.default) := by
  constructor
  · intro h
    refine ⟨nodeBody_inRange h, ?_⟩
    unfold nodeBody at h
    split at h
    · rename_i address l flags rest
      split at h
      · rename_i small
        simp only [Option.bind_eq_some_iff] at h
        obtain ⟨line, hl, ⟨d, rest⟩, hd, t, ht, h⟩ := h
        dsimp only at h ht
        split at h
        · cases h
          obtain ⟨present, rfl⟩ := descriptorGroup_eq_some_iff.mp hd
          obtain ⟨rfl, plain⟩ := timingGroup_eq_some_iff.mp ht
          refine ⟨flags.getLsbD 1, ?_, plain⟩
          rw [nodeBytes_eq, lineOf_eq_some_iff.mp hl, present, ← nodeAddFlags_of_bits small]
          rfl
        · cases h
      · cases h
    · cases h
  · rintro ⟨range, timed, rfl, plain⟩
    obtain ⟨small, present, timed_eq, notify, start⟩ := nodeAddFlags_bits c.descriptor.isSome timed c.notify disabled
    have hd : ∀ rest, descriptorGroup c.descriptor.isSome (descriptorBytes c.descriptor ++ rest) = some (c.descriptor, rest) :=
      fun _ => descriptorGroup_eq_some_iff.mpr ⟨rfl, rfl⟩
    have ht : timingGroup timed (if timed then c.timing.bytes else []) = some c.timing :=
      timingGroup_eq_some_iff.mpr ⟨rfl, plain⟩
    simp only [nodeBytes_eq, nodeBody, if_pos small, lineOf_lineCode, Option.bind_some, present, timed_eq, notify, start, hd, ht]
    exact if_pos range

theorem nodeSetBody_eq_some_iff (body : List Byte) (i : Index) (c : NodeConfig) : nodeSetBody body = some (i, c) ↔
    ∃ rest disabled, body = byteOf i.val :: rest ∧ nodeBody rest = some (c, disabled) := by
  cases body with
  | nil => simp [nodeSetBody]
  | cons b rest =>
    simp [nodeSetBody, Option.bind_eq_some_iff, indexOf_eq_some_iff]

/-- With the timing group the values may be any in range; without it they are the defaults (R8). -/
theorem exists_timed_iff (body : List Byte) (c : NodeConfig) (disabled : Bool) :
    (∃ timed, body = nodeBytes c disabled timed ∧ (timed = false → c.timing = Timing.default)) ↔
      body = nodeBytes c disabled true ∨
        body = nodeBytes c disabled false ∧ c.period = 1000 ∧ c.timeout = 20 ∧ c.retries = 1 ∧ c.limit = 3 := by
  simp [Bool.exists_bool, or_comm, NodeConfig.timing, Timing.default]

/-- Settles O54: each clause is the lemma of its frame, field or body above. -/
theorem hostFramesRoundTrip : Obligations.HostFramesRoundTrip := by
  refine ⟨fun r h => ⟨Request.frameAccepted_frame h, r.requestOf_frame, rfl⟩, withCrc_eq, ⟨rfl, crc_concat⟩, halfBytes_eq,
    wordBytes_eq, ⟨rfl, requestKindOf_eq_some_iff⟩, emptyBody_eq_some_iff, lineBody_eq_some_iff, indexBody_eq_some_iff,
    lineInfoBody_eq_some_iff, nodeInfoBody_eq_some_iff, cancelBody_eq_some_iff, fun body l x => ?_, fun body c disabled => ?_,
    nodeSetBody_eq_some_iff, demandBody_eq_some_iff, broadcastBody_eq_some_iff, scanStartBody_eq_some_iff⟩
  · rw [lineSetBody_eq_some_iff, LineSettings.inRange_iff]
  · rw [nodeBody_eq_some_iff, NodeConfig.inRange_iff, exists_timed_iff]

end Sys2Proof.Machine

/-! SUPPORT. The end of an attempt, and the timers that end one (R31, R34, R39, R54, R63). -/

namespace Sys2Proof.Machine

/-! ## One line after another change of it -/

@[simp] theorem State.setLine_updLine (s : State) (l : LineId) (x : Line) (f : Line → Line) :
    (s.setLine l x).updLine l f = s.setLine l (f x) := by
  rw [State.updLine, State.line_setLine_same, State.setLine_setLine]

@[simp] theorem State.setLine_countLine (s : State) (l : LineId) (x : Line) (f : LineCounters → LineCounters) :
    (s.setLine l x).countLine l f = s.setLine l { x with counters := f x.counters } := State.setLine_updLine s l x _

@[simp] theorem State.setLine_setOpenFrame (s : State) (l : LineId) (x : Line) (frame : Option (List Byte)) :
    (s.setLine l x).setOpenFrame l frame = s.setLine l { x with openFrame := frame } := State.setLine_updLine s l x _

theorem State.openStray_eq (s : State) (l : LineId) (data : Byte) : s.openStray l data =
    s.updLine l fun y =>
      { y with counters := { y.counters with stray := countUp y.counters.stray }, openFrame := some [data] } := by
  rw [State.openStray, State.setOpenFrame, State.countLine, State.updLine_updLine]
  rfl

/-! ## The end of an attempt -/

theorem countUp_toNat {c : Half} (h : c.toNat < 65535) : (countUp c).toNat = c.toNat + 1 := by
  have below : c ≠ 0xFFFF := by rintro rfl; simp at h
  rw [countUp, if_neg below]
  bv_omega

theorem countUp_saturated {c : Half} (h : c.toNat = 65535) : countUp c = c :=
  if_pos (BitVec.eq_of_toNat_eq h)

theorem Transaction.retries_eq (t : Transaction) (o : FieldOutcome) :
    t.retries o = decide ((o = .timeout ∨ o = .corrupt ∨ o = .collision) ∧ t.made < t.allowed) := by
  cases o with
  | timeout | corrupt | collision | ok | exception | lineOff | lineFault => simp [Transaction.retries]

theorem collisionRunAfter_eq (run : Nat) (o : FieldOutcome) : collisionRunAfter run o = if o = .collision then run else 0 := by
  cases o with
  | timeout | corrupt | collision | ok | exception | lineOff | lineFault => simp [collisionRunAfter]

theorem State.countAttempt_timeout {s : State} {i : Index} {n : Node} (h : s.node i = some n) (hm : n.mark = .attached) :
    s.countAttempt i .timeout =
      s.setNode i (some { n with counters := { n.counters with timeouts := countUp n.counters.timeouts } }) := by
  simp [State.countAttempt, h, hm]

theorem State.countAttempt_corrupt {s : State} {i : Index} {n : Node} (h : s.node i = some n) (hm : n.mark = .attached) :
    s.countAttempt i .corrupt =
      s.setNode i (some { n with counters := { n.counters with corrupt := countUp n.counters.corrupt } }) := by
  simp [State.countAttempt, h, hm]

/-- Only TIMEOUT and CORRUPT are counted (R3). -/
theorem State.countAttempt_uncounted (s : State) (i : Index) {o : FieldOutcome} (ht : o ≠ .timeout) (hc : o ≠ .corrupt) :
    s.countAttempt i o = s := by
  unfold State.countAttempt
  split
  · rfl
  · cases o with
    | timeout => exact absurd rfl ht
    | corrupt => exact absurd rfl hc
    | ok | exception | collision | lineOff | lineFault => exact ite_self s

/-- Nothing is counted while the node's mark is not ATTACHED (R3). -/
theorem State.countAttempt_unattached {s : State} {i : Index} {n : Node} (h : s.node i = some n) (hm : n.mark ≠ .attached)
    (o : FieldOutcome) : s.countAttempt i o = s := by
  simp [State.countAttempt, h, hm]

theorem State.countFlight_of_node {k : TransactionKind} {i : Index} (h : k.node = some i) (s : State) (o : FieldOutcome) :
    s.countFlight k o = s.countAttempt i o := by
  rw [State.countFlight, h]

theorem State.countFlight_of_none {k : TransactionKind} (h : k.node = none) (s : State) (o : FieldOutcome) :
    s.countFlight k o = s := by
  rw [State.countFlight, h]

/-- The state counted for is left as it is by a retry, and receives the outcome otherwise (R39, R44). -/
theorem State.endAttempt_retry_or_deliver {s u : State} {l : LineId} {t : Transaction} {o : FieldOutcome} {kind : GuardKind}
    (ht : (s.line l).transaction = some t)
    (hu : (s.setLine l ((s.line l).endsAttempt t o kind)).countFlight t.kind o = u) :
    (t.retries o = true → s.endAttempt l o kind = u) ∧ (t.retries o = false → s.endAttempt l o kind = u.deliver l t o) := by
  rw [State.endAttempt_of_some ht, State.updLine, hu]
  constructor <;> intro hr <;> simp [hr]

/-- Settles O50: the outcome is counted on the line already in GUARD, and by the kind of the transaction and the node's mark. -/
theorem attemptEndRetriesOrDelivers : Obligations.AttemptEndRetriesOrDelivers := by
  refine ⟨fun c => ⟨countUp_toNat, countUp_saturated⟩, ?_⟩
  intro s l t o kind ht x retry ended counted
  have ended_eq : s.setLine l (x.endsAttempt t o kind) = ended := by
    simp only [Line.endsAttempt, collisionRunAfter_eq, Transaction.retries_eq]
    rfl
  have counts : ∀ u, ended.countFlight t.kind o = u → counted u := by
    intro u hu
    have ends := State.endAttempt_retry_or_deliver (kind := kind) ht (ended_eq ▸ hu)
    rwa [Transaction.retries_eq] at ends
  have node_ended : ∀ i, ended.node i = s.node i := State.node_setLine s l _
  refine ⟨fun i n hk hn hm => ⟨?timeout, ?corrupt, fun not_timeout not_corrupt => counts _ ?other⟩,
    fun i n hk hn hm => counts _ ?unattached, fun hk => counts _ (State.countFlight_of_none hk _ o)⟩
  case timeout =>
    rintro rfl
    exact counts _ (by rw [State.countFlight_of_node hk, State.countAttempt_timeout ((node_ended i).trans hn) hm])
  case corrupt =>
    rintro rfl
    exact counts _ (by rw [State.countFlight_of_node hk, State.countAttempt_corrupt ((node_ended i).trans hn) hm])
  case other => rw [State.countFlight_of_node hk, State.countAttempt_uncounted _ i not_timeout not_corrupt]
  case unattached => rw [State.countFlight_of_node hk, State.countAttempt_unattached ((node_ended i).trans hn) hm]

/-! ## The timers of an attempt -/

theorem exec_responseTimerExpiry_waiting {s : State} {l : LineId} (hs : s.resetting = none)
    (hw : (s.line l).state = .waiting) (ht : (s.line l).timer = .running) :
    exec (.responseTimerExpiry l) s = .next (s.endAttempt l .timeout .guardTime) := by
  simp [exec, execResponseTimerExpiry, State.awake_of_none hs, hw, ht]

/-- The expiry is held off in RECEIVING, and in SENDING after the last stop bit (R31, R57, log entry 6). -/
theorem exec_responseTimerExpiry_held {s : State} {l : LineId} (hs : s.resetting = none)
    (hx : (s.line l).state = .receiving ∧ (s.line l).timer = .halted ∨
      (s.line l).state = .sending ∧ (s.line l).timer = .running) :
    exec (.responseTimerExpiry l) s = .next (s.setLine l { s.line l with elapsed := true }) := by
  rcases hx with ⟨hstate, htimer⟩ | ⟨hstate, htimer⟩ <;>
    simp [exec, execResponseTimerExpiry, State.awake_of_none hs, hstate, htimer, State.updLine]

theorem exec_responseTimerExpiry_stopped {s : State} {l : LineId} (hs : s.resetting = none)
    (ht : (s.line l).timer = .stopped) : exec (.responseTimerExpiry l) s = .next s := by
  simp [exec, execResponseTimerExpiry, State.awake_of_none hs, ht]

theorem exec_frameGapExpiry_of_awake {s : State} (h : s.resetting = none) (l : LineId) :
    exec (.frameGapExpiry l) s = .next (if (s.line l).reception = none ∧ (s.line l).openFrame.isSome then
      if (s.line l).state = .receiving then s.breakCandidate l else s.setOpenFrame l none
    else s) := by
  show execFrameGapExpiry l s = _
  rw [execFrameGapExpiry, State.awake_of_none h]

/-- Settles O35, one timer and one line state at a time. -/
theorem attemptTimersExpire : Obligations.AttemptTimersExpire := by
  intro s l hs x
  refine ⟨fun _ hstate htimer _ => exec_responseTimerExpiry_waiting hs hstate htimer,
    fun hstate htimer => exec_responseTimerExpiry_held hs (.inl ⟨hstate, htimer⟩),
    fun hstate htimer => exec_responseTimerExpiry_held hs (.inr ⟨hstate, htimer⟩),
    exec_responseTimerExpiry_stopped hs, fun bytes hopen hrec => ?_, fun hgap => ?_⟩ <;>
    rw [exec_frameGapExpiry_of_awake hs]
  · have gap : (s.line l).reception = none ∧ (s.line l).openFrame.isSome := ⟨hrec, hopen ▸ rfl⟩
    rw [if_pos gap]
    exact ⟨fun hstate => by rw [if_pos hstate]; rfl, fun hstate => by rw [if_neg hstate]; rfl⟩
  · have no_gap : ¬((s.line l).reception = none ∧ (s.line l).openFrame.isSome) := by
      rintro ⟨hrec, hopen⟩
      rcases hgap with hclosed | htaking
      · rw [show (s.line l).openFrame = none from hclosed] at hopen
        cases hopen
      · exact htaking hrec
    rw [if_neg no_gap]

end Sys2Proof.Machine

/-! SUPPORT. The candidate response: how it grows, breaks, and is judged (R33 to R36, R54). -/

namespace Sys2Proof.Machine

/-! ## A frame grows -/

theorem assemble_short {bytes : List Byte} {b : Byte} (h : (bytes ++ [b])[3]? = none) :
    assemble bytes b = .growing (bytes ++ [b]) := by
  unfold assemble
  dsimp only
  split
  · rename_i heq
    rw [heq] at h
    simp at h
  · rfl

/-- A frame with its LEN character breaks, is complete, or has more characters to come (R54). -/
theorem assemble_of_len {bytes : List Byte} {b len : Byte} (h : (bytes ++ [b])[3]? = some len) :
    assemble bytes b = if 48 < len.toNat then .broken
      else if (bytes ++ [b]).length = 6 + len.toNat then .complete (bytes ++ [b]) else .growing (bytes ++ [b]) := by
  match hb : bytes ++ [b], h with
  | _ :: _ :: _ :: _ :: _, h =>
    cases h
    unfold assemble
    rw [hb]
    rfl

/-! ## The checks of a candidate response -/

theorem halfBytes_inj {v w : Half} : halfBytes v = halfBytes w ↔ v = w := by
  obtain ⟨high, low, hv, rfl⟩ := halfBytes_pair v
  refine ⟨fun h => ?_, fun h => h ▸ rfl⟩
  obtain ⟨high', low', hw, rfl⟩ := halfBytes_pair w
  rw [hv, hw] at h
  cases h
  rfl

/-- The CRC check and the sequence check come first, and the rest is judged as the answer (R35). -/
theorem judge_frame (t : Transaction) (address kind sequence len : Byte) (payload : List Byte) (high low : Byte) :
    judge t (address :: kind :: sequence :: len :: payload ++ [high, low]) =
      if halfOf high low = crc (address :: kind :: sequence :: len :: payload) then
        if sequence = t.sequence then .ends (judgeAnswer t.operation kind payload) else .stray
      else .ends .corrupt := by
  have checked : withCrc (address :: kind :: sequence :: len :: payload) =
        address :: kind :: sequence :: len :: payload ++ [high, low] ↔
      halfOf high low = crc (address :: kind :: sequence :: len :: payload) := by
    rw [withCrc, List.append_cancel_left_eq, ← halfBytes_halfOf high low, halfBytes_inj, eq_comm]
  have body : (address :: kind :: sequence :: len :: payload ++ [high, low]).take
        ((address :: kind :: sequence :: len :: payload ++ [high, low]).length - 2) =
      address :: kind :: sequence :: len :: payload := by simp
  have answer : (payload ++ [high, low]).take ((payload ++ [high, low]).length - 2) = payload := by simp
  unfold judge
  rw [body]
  simp only [checked]
  simp only [List.cons_append, answer]

theorem judgeAnswer_ok {op : Operation} {payload : List Byte} (h : payload.length = op.answerLength) :
    judgeAnswer op op.answerKind payload = .ok payload := by
  unfold judgeAnswer
  rw [if_pos rfl, if_pos h]

theorem Operation.exceptionKind_ne_answerKind (op : Operation) : exceptionKind ≠ op.answerKind := by
  cases op <;> simp [exceptionKind, Operation.answerKind]

theorem judgeAnswer_exception (op : Operation) {reason : Byte} (h : reason ≠ 0) :
    judgeAnswer op exceptionKind [reason] = .exception reason := by
  unfold judgeAnswer
  rw [if_neg op.exceptionKind_ne_answerKind, if_pos rfl]
  exact if_neg h

theorem judgeAnswer_corrupt {op : Operation} {kind : Byte} {payload : List Byte}
    (hgood : ¬(kind = op.answerKind ∧ payload.length = op.answerLength))
    (hexc : ¬(kind = exceptionKind ∧ ∃ reason, payload = [reason] ∧ reason ≠ 0)) :
    judgeAnswer op kind payload = .corrupt := by
  unfold judgeAnswer
  split_ifs with hk hl he
  · exact absurd ⟨hk, hl⟩ hgood
  · rfl
  · split
    · rename_i reason
      exact if_pos (by_contra fun hr => hexc ⟨he, reason, rfl, hr⟩)
    · rfl
  · rfl

/-! ## A character of the candidate response -/

theorem exec_fieldCharacterReceived_of_taking {s : State} {l : LineId} (hs : s.resetting = none)
    (ho : (s.line l).state ≠ .off) (hr : (s.line l).reception ≠ some .held) (data : Byte) (mark good : Bool) :
    exec (.fieldCharacterReceived l data mark good) s = .next (s.takeCharacter l data mark good) := by
  show execFieldCharacterReceived l data mark good s = _
  rw [execFieldCharacterReceived, State.awake_of_none hs, if_neg (not_or.mpr ⟨ho, hr⟩)]

section
variable {s : State} {l : LineId} {t : Transaction} (hs : s.resetting = none) (ht : (s.line l).transaction = some t)
  (hr : (s.line l).reception = none ∨ (s.line l).reception = some .plain)
include hs ht hr

theorem exec_fieldCharacterReceived_waiting (hw : (s.line l).state = .waiting) (data : Byte) (mark good : Bool) :
    exec (.fieldCharacterReceived l data mark good) s =
      .next ((s.setLine l ((s.line l).finishReception good)).takeWaiting l t data mark good) := by
  rw [exec_fieldCharacterReceived_of_taking hs (by rw [hw]; decide) (by rcases hr with h | h <;> simp [h])]
  rcases hr with h | h <;> simp [State.takeCharacter, hw, ht, h, State.updLine]

theorem exec_fieldCharacterReceived_receiving (hw : (s.line l).state = .receiving) (data : Byte) (mark good : Bool) :
    exec (.fieldCharacterReceived l data mark good) s =
      .next ((s.setLine l ((s.line l).finishReception good)).takeReceiving l t data mark good) := by
  rw [exec_fieldCharacterReceived_of_taking hs (by rw [hw]; decide) (by rcases hr with h | h <;> simp [h])]
  rcases hr with h | h <;> simp [State.takeCharacter, hw, ht, h, State.updLine]

end

theorem Line.finishReception_good (x : Line) : x.finishReception true = { x with reception := none } := by
  simp [Line.finishReception]

theorem Line.finishReception_bad (x : Line) :
    x.finishReception false = { x with reception := if x.pinMark then none else some .held } := by
  simp [Line.finishReception]

/-! ## The candidate response grows, breaks or is decided -/

theorem State.setLine_discardCandidate (s : State) (l : LineId) (y : Line) : (s.setLine l y).discardCandidate l =
    if y.elapsed then (s.setLine l { y with counters := y.counters.addStray, openFrame := none }).endAttempt l .timeout .guardTime
    else s.setLine l { y with counters := y.counters.addStray, openFrame := none, state := .waiting, timer := .running } := by
  simp [State.discardCandidate]

section
variable (s : State) (l : LineId) (t : Transaction) {y : Line} {bytes now : List Byte} {data : Byte}

theorem State.takeReceiving_growing (hy : y.openFrame = some bytes) (ha : assemble bytes data = .growing now) :
    (s.setLine l y).takeReceiving l t data false true = s.setLine l { y with openFrame := some now } := by
  simp [State.takeReceiving, hy, ha]

theorem State.takeReceiving_broken (hy : y.openFrame = some bytes) (ha : assemble bytes data = .broken) :
    (s.setLine l y).takeReceiving l t data false true =
      (s.setLine l { y with openFrame := none }).endAttempt l .corrupt .guardTime := by
  simp [State.takeReceiving, hy, ha, State.breakCandidate]

theorem State.takeReceiving_stray (hy : y.openFrame = some bytes) (ha : assemble bytes data = .complete now)
    (hj : judge t now = .stray) :
    (s.setLine l y).takeReceiving l t data false true = (s.setLine l y).discardCandidate l := by
  simp [State.takeReceiving, hy, ha, hj]

theorem State.takeReceiving_ends (hy : y.openFrame = some bytes) (ha : assemble bytes data = .complete now) {o : FieldOutcome}
    (hj : judge t now = .ends o) : (s.setLine l y).takeReceiving l t data false true =
      (s.setLine l { y with openFrame := none }).endAttempt l o .guardTime := by
  simp [State.takeReceiving, hy, ha, hj]

end

/-- Settles O41: a character grows the open frame, breaks it or completes it, and a complete frame is judged by the
checks in order. -/
theorem candidateResponseDecides : Obligations.CandidateResponseDecides := by
  intro s l t data hs x ht hr received ended broken strayed
  refine ⟨fun hw hd => ?_, fun hw bytes hopen => ?_⟩
  · show exec _ s = _
    rw [exec_fieldCharacterReceived_waiting hs ht hr hw, Line.finishReception_good, State.takeWaiting,
      if_pos ⟨rfl, rfl, hd⟩, State.setLine_updLine]
  intro now ends
  have receives : ∀ mark good, received mark good =
      .next ((s.setLine l (x.finishReception good)).takeReceiving l t data mark good) :=
    exec_fieldCharacterReceived_receiving hs ht hr hw data
  have receives_good : received false true = .next ((s.setLine l ended).takeReceiving l t data false true) := by
    rw [receives, Line.finishReception_good]
  have ends_of_broken (ha : assemble bytes data = .broken) : ends .corrupt :=
    receives_good.trans (congrArg _ (s.takeReceiving_broken l t (y := ended) hopen ha))
  have ends_of_judge {o : FieldOutcome} (ha : assemble bytes data = .complete now) (hj : judge t now = .ends o) : ends o :=
    receives_good.trans (congrArg _ (s.takeReceiving_ends l t (y := ended) hopen ha hj))
  have grows (ha : assemble bytes data = .growing now) :
      received false true = .next (s.setLine l { ended with openFrame := some now }) :=
    receives_good.trans (congrArg _ (s.takeReceiving_growing l t (y := ended) hopen ha))
  refine ⟨fun mark => ?framing, ?marked, fun h => grows (assemble_short h), fun len hlen =>
    ⟨fun h => ?long, fun h hne => ?more, fun h heq address kind sequence payload high low hnow => ?complete⟩⟩
  case framing =>
    rw [receives, Line.finishReception_bad]
    simp [State.takeReceiving, State.breakCandidate, broken, LineCounters.addFraming]
  case marked =>
    rw [receives, Line.finishReception_good]
    simp [State.takeReceiving, State.breakCandidate, State.openStray_eq, ended]
  case long => exact ends_of_broken (by rw [assemble_of_len hlen, if_pos h])
  case more => exact grows (by rw [assemble_of_len hlen, if_neg (by omega), if_neg hne])
  case complete =>
    have complete : assemble bytes data = .complete now := by rw [assemble_of_len hlen, if_neg (by omega), if_pos heq]
    have judged := judge_frame t address kind sequence len payload high low
    rw [← hnow] at judged
    refine ⟨fun hcrc => ends_of_judge complete (by rw [judged, if_neg hcrc]), fun hcrc => ?_⟩
    rw [if_pos hcrc] at judged
    refine ⟨fun hseq => ?stray, fun hseq => ?answer⟩
    case stray =>
      rw [if_neg hseq] at judged
      rw [receives_good, s.takeReceiving_stray l t (y := ended) hopen complete judged, State.setLine_discardCandidate]
      exact ⟨fun he => congrArg _ (if_pos he), fun he => congrArg _ (if_neg (by simp [ended, he]))⟩
    case answer =>
      rw [if_pos hseq] at judged
      intro good
      have good_iff : good ↔ kind = t.operation.answerKind ∧ payload.length = t.operation.answerLength := by
        simp only [good]
        cases t.operation <;> rfl
      refine ⟨fun hg => ends_of_judge complete ?_, fun reason hk hp hn => ends_of_judge complete ?_,
        fun hg he => ends_of_judge complete ?_⟩ <;> rw [judged]
      · obtain ⟨rfl, length⟩ := good_iff.mp hg
        rw [judgeAnswer_ok length]
      · subst hk hp
        rw [show (0x8F : Byte) = exceptionKind from rfl, judgeAnswer_exception _ hn]
      · rw [judgeAnswer_corrupt (good_iff.not.mp hg) he]

end Sys2Proof.Machine

/-! SUPPORT. A line that goes to FAULT or OFF loses its work: its transaction in flight, its demand queue and its scan job end with
their replies, and nothing else of the part changes (R41, R62, R65, R118, R129). -/

namespace Sys2Proof.Machine

/-! ## Losses in a row -/

theorem Withholds.refl (s : State) : Withholds s s [] 0 [] :=
  ⟨⟨[], by simp, rfl⟩, by simp, rfl, .refl s⟩

theorem Withholds.trans {s t u : State} {rs qs : List Reply} {n m : Nat} {marked : List Subject} (h : Withholds s t rs n [])
    (g : Withholds t u qs m marked) : Withholds s u (rs ++ qs) (n + m) marked := by
  obtain ⟨ms, hms, rfl⟩ := h.appended
  obtain ⟨ns, hns, rfl⟩ := g.appended
  refine ⟨⟨ms ++ ns, by rw [hns, hms, List.append_assoc], by simp⟩, ?_, ?_, h.kept.trans g.kept hms hns⟩
  · rw [g.tags, h.tags, List.filter_filter]
    refine List.filter_congr fun x _ => ?_
    simp [Bool.and_comm]
  · rw [g.reserved, h.reserved, Nat.sub_sub]

theorem SameMessages.withholds {s t : State} (h : SameMessages s t) : Withholds s t [] 0 [] :=
  (Withholds.refl s).sameMessages h

theorem Withholds.after {s t u : State} {rs : List Reply} {n : Nat} {marked : List Subject} (h : Withholds t u rs n marked)
    (g : SameMessages s t) : Withholds s u rs n marked := by
  simpa using g.withholds.trans h

theorem State.setNode_sameMessages (s : State) (i : Index) (m : Option Node) : SameMessages s (s.setNode i m) := by
  constructor <;> rfl

/-- A deferred reply: its tag leaves the registry, its reservation is released, and it is queued (R157, R158). -/
theorem State.deferredReply_withholds (s : State) (n : Nat) (r : Reply) :
    Withholds s ((s.dropTag r.tag).queueReply n r) [r] n [] := by
  obtain ⟨posts, -, reserved, tags, -⟩ := (s.dropTag r.tag).queueReply_posts n r
  refine ⟨posts.appended, ?_, reserved, posts.kept.congr rfl rfl (fun _ => rfl) rfl rfl fun _ => rfl⟩
  rw [tags, State.dropTag_tags]
  simp

theorem State.deferredReply_queueOnly (s : State) (tag : Byte) (n : Nat) (r : Reply) :
    QueueOnly s ((s.dropTag tag).queueReply n r) := (s.dropTag_queueOnly tag).trans (State.queueReply_queueOnly _ _ _)

theorem replyEntries_withholds (es : List DemandEntry) (l : LineId) (status : Status) (s : State) :
    Withholds s (es.foldl (fun s e => s.replyEntry l status e) s)
      (es.map fun e => demandReply l e.tag e.node e.operation status []) (es.map DemandEntry.reserved).sum [] := by
  have settled := replyEntries_settles es l status s
  exact ⟨settled.posts.appended, foldl_replyEntry_tags es l status s, settled.reserved, settled.posts.kept⟩

/-- A flush answers the whole demand queue (R118). -/
theorem State.flush_withholds (s : State) (l : LineId) (status : Status) :
    Withholds s (s.flush l status) ((s.line l).demandQueue.map fun e => demandReply l e.tag e.node e.operation status [])
      (s.line l).queueReserved [] :=
  (replyEntries_withholds (s.line l).demandQueue l status _).after
    (s.updLine_sameMessages l fun x => { x with demandQueue := [] })

/-- The end of a scan job answers it (R129, R130). -/
theorem State.endScan_withholds (s : State) (l : LineId) (status : Status) :
    Withholds s (s.endScan l status) ((s.line l).scan.map fun j => j.reply l status).toList (s.line l).scanReserved [] := by
  unfold State.endScan
  split
  · rename_i hj
    simpa [Line.scanReserved, hj] using Withholds.refl s
  · rename_i j hj
    have replied := (State.deferredReply_withholds _ Config.scanReservation (j.reply l status)).after
      (s.updLine_sameMessages l fun x => { x with scan := none })
    rw [Line.scanReserved, hj]
    exact replied

/-! ## The transaction in flight -/

/-- The outcome of a transaction that its line has lost (R41). -/
abbrev FieldOutcome.lost (o : FieldOutcome) : Prop := o = .lineOff ∨ o = .lineFault

theorem State.setNode_node (s : State) (i : Index) : s.setNode i (s.node i) = s := by
  have same : s.nodes.set i.val (s.node i) i.isLt = s.nodes := Vector.set_getElem_self i.isLt
  rw [State.setNode, same]

/-- The node table after the loss of a line's transaction. -/
def State.nodesAfterLoss (s : State) (l : LineId) : Vector (Option Node) 32 :=
  match (s.line l).inFlightNode with
  | some i => s.nodes.set i.val ((s.node i).bind Node.afterLoss) i.isLt
  | none => s.nodes

theorem State.nodesAfterLoss_get (s : State) (l : LineId) (j : Index) : (s.nodesAfterLoss l).get j =
    if (s.line l).inFlightNode = some j then (s.node j).bind Node.afterLoss else s.node j := by
  unfold State.nodesAfterLoss
  split
  · rename_i i hi
    by_cases h : j = i
    · subst h; rw [get_set_same, if_pos hi]
    · rw [get_set_other _ _ h, if_neg (by rw [hi]; simpa using Ne.symm h)]; rfl
  · rename_i hi
    simp [hi, State.node]

/-- The scan job of a line that loses its transaction: a probe in flight is no more (R128). -/
def Line.scanAfterLoss (x : Line) : Option ScanJob :=
  match x.flightKind with
  | some .scanProbe => x.scan.map fun j => { j with probe := none }
  | _ => x.scan

/-- The reply of a scan job says nothing of its probe in flight (R130). -/
theorem Line.scanAfterLoss_reply (x : Line) (l : LineId) (status : Status) :
    (x.scanAfterLoss.map fun j => j.reply l status) = x.scan.map fun j => j.reply l status := by
  unfold Line.scanAfterLoss
  split
  · simp [Function.comp_def, ScanJob.reply]
  · rfl

theorem Line.scanAfterLoss_isSome (x : Line) : x.scanAfterLoss.isSome = x.scan.isSome := by
  unfold Line.scanAfterLoss
  split <;> simp

theorem Node.afterLoss_of_unmarked {n : Node} (h : n.mark = .none) : n.afterLoss = some n := by
  cases n
  simp_all [Node.afterLoss]

/-- A lost transaction changes nothing of its node but the mark, frees a REMOVING entry, and arms the recovery timer for a probe whose
outcome is applied (R14, R19, R20, R21). -/
theorem State.applyOutcome_lost (s : State) (l : LineId) (i : Index) (probe : Bool) {o : FieldOutcome} (ho : o.lost) :
    s.applyOutcome l i probe o =
      let u := s.setNode i ((s.node i).bind Node.afterLoss)
      if probe = true ∧ s.attached i = true then u.armRecovery l i else u := by
  cases hn : s.node i with
  | none =>
    have same : s.setNode i none = s := hn ▸ s.setNode_node i
    simp [State.applyOutcome, State.attached, hn, same]
  | some n =>
    cases hm : n.mark with
    | none => simp [State.applyOutcome, State.attached, hn, hm, Node.afterLoss_of_unmarked hm, State.setNode_self hn]
    | detached => simp [State.applyOutcome_detached hn hm, State.attached, hn, hm, Node.afterLoss]
    | attached =>
      cases probe with
      | false => simp [State.applyOutcome_service hn hm, State.applyService_line _ _ _ _ (.inr ho), Node.afterLoss, hm]
      | true =>
        rw [State.applyOutcome_probe hn hm, State.applyProbe_failed _ _ _ _ (.inr (.inr (.inr ho)))]
        simp [State.attached, hn, hm, Node.afterLoss]

/-- The state of a line that has lost its transaction, but for the message side: the outcome has reached the node, and a poll is back at
the head of the due list (R41, R80). -/
def State.vacated (s : State) (l : LineId) : State :=
  { s.setLine l { s.line l with
      transaction := none, scan := (s.line l).scanAfterLoss
      dueList := s.dueListAfterLoss l, recoveryTimers := s.recoveryTimersAfterLoss l } with
    nodes := s.nodesAfterLoss l }

theorem State.attached_updLine (s : State) (l : LineId) (f : Line → Line) (i : Index) :
    (s.updLine l f).attached i = s.attached i := by
  simp [State.attached]

theorem State.vacated_of_none {s : State} {l : LineId} (ht : (s.line l).transaction = none) : s.vacated l = s := by
  unfold State.vacated State.nodesAfterLoss State.dueListAfterLoss State.recoveryTimersAfterLoss Line.scanAfterLoss
  simp only [Line.flightKind, Line.inFlightNode, ht, Option.map_none, Option.bind_none]
  rw [← ht]
  cases l <;> rfl

/-- What is lost with a transaction, by its kind. -/
theorem State.vacated_of_some {s : State} {l : LineId} {t : Transaction} (ht : (s.line l).transaction = some t) :
    s.vacated l = match (generalizing := false) t.kind with
      | .poll i due => (s.setNode i ((s.node i).bind Node.afterLoss)).updLine l fun x => { x.vacate with
          dueList := if s.attached i then { index := i, kind := .poll, due := due } :: x.dueList else x.dueList }
      | .recoveryProbe i => (s.setNode i ((s.node i).bind Node.afterLoss)).updLine l fun x => { x.vacate with
          recoveryTimers := if s.attached i then
            x.recoveryTimers.set i.val (some (s.partTime + x.settings.recovery.setWidth 32)) i.isLt else x.recoveryTimers }
      | .demand i _ _ => (s.setNode i ((s.node i).bind Node.afterLoss)).updLine l Line.vacate
      | .broadcast _ _ => s.updLine l Line.vacate
      | .scanProbe => s.updLine l fun x => { x.vacate with scan := x.scan.map fun j => { j with probe := none } } := by
  unfold State.vacated State.nodesAfterLoss State.dueListAfterLoss State.recoveryTimersAfterLoss Line.scanAfterLoss
  cases hk : t.kind <;>
    simp only [Line.flightKind, Line.inFlightNode, ht, hk, Option.map_some, Option.bind_some, TransactionKind.node] <;>
    cases l <;> rfl

section
variable {s : State} {l : LineId} {t : Transaction} {o : FieldOutcome} (ho : o.lost) (ht : (s.line l).transaction = some t)
include ho ht

/-- A lost poll is put back at the head of the due list (R80). -/
theorem State.deliver_lost_poll {i : Index} {due : Word} (hk : t.kind = .poll i due) :
    (s.updLine l Line.vacate).deliver l t o = s.vacated l := by
  have put : ∀ u : State, u.afterPoll l i due o = u.putBackPoll l i due := by rcases ho with rfl | rfl <;> exact fun _ => rfl
  unfold State.deliver
  rw [hk]
  dsimp only
  rw [State.applyOutcome_lost _ l i false ho, put, State.attached_updLine, State.node_updLine]
  rw [State.vacated_of_some ht, hk]
  dsimp only
  cases s.attached i <;> cases l <;> rfl

/-- The recovery timer of a lost probe is armed again (R20, R75). -/
theorem State.deliver_lost_probe {i : Index} (hk : t.kind = .recoveryProbe i) :
    (s.updLine l Line.vacate).deliver l t o = s.vacated l := by
  unfold State.deliver
  rw [hk]
  dsimp only
  rw [State.applyOutcome_lost _ l i true ho, State.attached_updLine, State.node_updLine]
  rw [State.vacated_of_some ht, hk]
  dsimp only
  cases s.attached i <;> cases l <;> rfl

/-- A lost demand is answered (R113). -/
theorem State.deliver_lost_demand {i : Index} {tag : Byte} {reserved : Nat} (hk : t.kind = .demand i tag reserved) :
    let r := demandReply l tag (some i) t.operation o.status []
    Withholds s ((s.updLine l Line.vacate).deliver l t o) [r] reserved [] ∧
      QueueOnly (s.vacated l) ((s.updLine l Line.vacate).deliver l t o) := by
  intro r
  let u := s.updLine l Line.vacate
  let v := (u.dropTag tag).queueReply reserved r
  have data : o.data = [] := by rcases ho with rfl | rfl <;> rfl
  have core : QueueOnly u v := u.deferredReply_queueOnly tag reserved r
  have delivered : u.deliver l t o = v.setNode i ((s.node i).bind Node.afterLoss) := by
    unfold State.deliver
    rw [hk, data]
    dsimp only
    rw [State.applyOutcome_lost _ l i false ho]
    simp only [Bool.false_eq_true, false_and, if_false]
    rw [show State.node _ i = s.node i from (core.node i).trans (s.node_updLine l _ i)]
  have vacated : u.setNode i ((s.node i).bind Node.afterLoss) = s.vacated l := by
    rw [State.vacated_of_some ht, hk]
    exact s.setNode_updLine l _ i _
  rw [delivered]
  exact ⟨((u.deferredReply_withholds reserved r).after (s.updLine_sameMessages l _)).sameMessages (v.setNode_sameMessages i _),
    vacated ▸ core.setNode i _⟩

omit ho in
/-- A lost broadcast is answered (R116). -/
theorem State.deliver_lost_broadcast {tag : Byte} {reserved : Nat} (hk : t.kind = .broadcast tag reserved) :
    let r := demandReply l tag none t.operation o.status []
    Withholds s ((s.updLine l Line.vacate).deliver l t o) [r] reserved [] ∧
      QueueOnly (s.vacated l) ((s.updLine l Line.vacate).deliver l t o) := by
  intro r
  let u := s.updLine l Line.vacate
  have delivered : u.deliver l t o = (u.dropTag tag).queueReply reserved r := by
    unfold State.deliver
    rw [hk]
  have vacated : u = s.vacated l := by
    rw [State.vacated_of_some ht, hk]
  rw [delivered]
  exact ⟨(u.deferredReply_withholds reserved r).after (s.updLine_sameMessages l _), vacated ▸ u.deferredReply_queueOnly tag _ r⟩

omit ho ht in
theorem State.scanResult_of_none (hj : (s.line l).scan = none) (address : Byte) (o : FieldOutcome) :
    s.scanResult l address o = s := by
  unfold State.scanResult
  rw [hj]

/-- A lost scan probe is no more, and its job records nothing (R128). -/
theorem State.deliver_lost_scanProbe (hk : t.kind = .scanProbe) : (s.updLine l Line.vacate).deliver l t o = s.vacated l := by
  rw [State.deliver_scanProbe _ l hk]
  have record : ∀ j : ScanJob, j.record t.target o = { j with probe := none } := by
    rcases ho with rfl | rfl <;> exact fun _ => rfl
  rw [State.vacated_of_some ht, hk]
  dsimp only
  cases hj : (s.line l).scan with
  | none =>
    rw [State.scanResult_of_none (by rw [State.line_updLine_same]; exact hj)]
    simp [State.updLine, Line.vacate, hj]
  | some j =>
    rw [State.scanResult_of_some (j := j) (by rw [State.line_updLine_same]; exact hj)]
    rw [if_pos ho, record, State.updLine_updLine]
    simp [State.updLine, hj]

end

/-- A line loses its transaction in flight (R41): the reply of a demand or broadcast, and beside the message side what `State.vacated`
says. -/
theorem State.endTransaction_lost (s : State) (l : LineId) {o : FieldOutcome} (ho : o.lost) :
    Withholds s (s.endTransaction l o) ((s.line l).flightReply l o.status).toList (s.line l).flightReserved [] ∧
      QueueOnly (s.vacated l) (s.endTransaction l o) := by
  cases ht : (s.line l).transaction with
  | none =>
    have same : s.endTransaction l o = s := by simp [State.endTransaction, ht]
    rw [same, State.vacated_of_none ht]
    simp only [Line.flightReply, Line.flightReserved, ht]
    exact ⟨.refl s, .refl s⟩
  | some t =>
    have ends : s.endTransaction l o = (s.updLine l Line.vacate).deliver l t o := by
      unfold State.endTransaction
      rw [ht]
      rfl
    rw [ends]
    simp only [Line.flightReply, Line.flightReserved, ht]
    have silent (h : (s.updLine l Line.vacate).deliver l t o = s.vacated l) :
        Withholds s ((s.updLine l Line.vacate).deliver l t o) [] 0 [] ∧
          QueueOnly (s.vacated l) ((s.updLine l Line.vacate).deliver l t o) := by
      rw [h]
      refine ⟨SameMessages.withholds ?_, .refl _⟩
      constructor <;> cases l <;> rfl
    cases hk : t.kind with
    | poll i due => exact silent (State.deliver_lost_poll ho ht hk)
    | recoveryProbe i => exact silent (State.deliver_lost_probe ho ht hk)
    | scanProbe => exact silent (State.deliver_lost_scanProbe ho ht hk)
    | demand i tag reserved => exact State.deliver_lost_demand ho ht hk
    | broadcast tag reserved => exact State.deliver_lost_broadcast ht hk

/-! ## All of the work -/

/-- The steps that FAULT and OFF share: the transaction in flight, the demand queue and the scan job end (R62, R65). -/
def State.loseWork (s : State) (l : LineId) (o : FieldOutcome) : State :=
  ((s.endTransaction l o).flush l o.status).endScan l o.status

/-- A line without its work, but for the message side. -/
def State.workLost (s : State) (l : LineId) : State :=
  { s.setLine l { s.line l with
      transaction := none, demandQueue := [], scan := none
      dueList := s.dueListAfterLoss l, recoveryTimers := s.recoveryTimersAfterLoss l } with
    nodes := s.nodesAfterLoss l }

theorem State.vacated_line (s : State) (l : LineId) : (s.vacated l).line l = { s.line l with
    transaction := none, scan := (s.line l).scanAfterLoss
    dueList := s.dueListAfterLoss l, recoveryTimers := s.recoveryTimersAfterLoss l } := by
  cases l <;> rfl

theorem State.loseWork_spec (s : State) (l : LineId) {o : FieldOutcome} (ho : o.lost) :
    let x := s.line l
    Withholds s (s.loseWork l o) (x.lostReplies l o.status) (x.flightReserved + x.queueReserved + x.scanReserved) [] ∧
      QueueOnly (s.workLost l) (s.loseWork l o) := by
  intro x
  let u := s.endTransaction l o
  let v := u.flush l o.status
  obtain ⟨ended, vacated⟩ := s.endTransaction_lost l ho
  have line_u : u.line l = { x with
      transaction := none, scan := x.scanAfterLoss
      dueList := s.dueListAfterLoss l, recoveryTimers := s.recoveryTimersAfterLoss l } := (vacated.line l).trans (s.vacated_line l)
  have flushed := (u.flush_settles l o.status).posts.core
  have line_v : v.line l = { u.line l with demandQueue := [] } := (flushed.line l).trans (State.line_updLine_same _ _ _)
  have queue := u.flush_withholds l o.status
  have scan := v.endScan_withholds l o.status
  rw [Line.queueReserved, line_u] at queue
  rw [Line.scanReserved, line_v, line_u, Line.scanAfterLoss_reply, Line.scanAfterLoss_isSome] at scan
  refine ⟨(ended.trans queue).trans scan, ?_⟩
  have base : ((s.vacated l).updLine l fun x => { x with demandQueue := [] }).updLine l (fun x => { x with scan := none }) =
      s.workLost l := by
    cases l <;> rfl
  exact base ▸ ((vacated.updLine l _).trans flushed).updLine l _ |>.trans (v.endScan_settles l o.status).posts.core

/-! ## FAULT and OFF -/

/-- A line as it leaves service keeps all that the loss of its work reads. -/
structure Line.SameWork (x y : Line) : Prop where
  transaction : y.transaction = x.transaction
  demandQueue : y.demandQueue = x.demandQueue
  scan : y.scan = x.scan
  dueList : y.dueList = x.dueList
  recoveryTimers : y.recoveryTimers = x.recoveryTimers
  settings : y.settings = x.settings

/-- The change to FAULT or OFF: `f` leaves service, the work is lost, and `g` sets the fields of the new state before LINE STATE is
marked (R62, R65). -/
def State.leave (s : State) (l : LineId) (f : Line → Line) (o : FieldOutcome) (g : Line → Line) : State :=
  (((s.updLine l f).loseWork l o).updLine l g).mark (.lineState l)

/-- The line that the change to FAULT or OFF leaves behind. -/
def State.lineLeft (s : State) (l : LineId) (f g : Line → Line) : Line :=
  g { f (s.line l) with
    transaction := none, demandQueue := [], scan := none
    dueList := s.dueListAfterLoss l, recoveryTimers := s.recoveryTimersAfterLoss l }

theorem State.leave_spec (s : State) (l : LineId) {f : Line → Line} (g : Line → Line) {o : FieldOutcome} (ho : o.lost)
    (hf : (s.line l).SameWork (f (s.line l))) :
    let x := s.line l
    let t := s.leave l f o g
    Withholds s t (x.lostReplies l o.status) (x.flightReserved + x.queueReserved + x.scanReserved) [.lineState l] ∧
      t.Reported (.lineState l) ∧ (s.noticeQueued (.lineState l) = true → Subject.lineState l ∈ t.notices) ∧
      QueueOnly { s.setLine l (s.lineLeft l f g) with nodes := s.nodesAfterLoss l } t := by
  intro x t
  let left := s.updLine l f
  have line_left : left.line l = f x := s.line_updLine_same l f
  obtain ⟨lost, core⟩ := left.loseWork_spec l ho
  have replies : (left.line l).lostReplies l o.status = x.lostReplies l o.status := by
    simp only [line_left, Line.lostReplies, Line.flightReply, hf.transaction, hf.demandQueue, hf.scan, x]
  have reserved : (left.line l).flightReserved + (left.line l).queueReserved + (left.line l).scanReserved =
      x.flightReserved + x.queueReserved + x.scanReserved := by
    simp only [line_left, Line.flightReserved, Line.queueReserved, Line.scanReserved, hf.transaction, hf.demandQueue, hf.scan, x]
  have nodes : left.nodesAfterLoss l = s.nodesAfterLoss l := by
    simp only [State.nodesAfterLoss, line_left, Line.inFlightNode, hf.transaction, left, State.updLine_nodes, State.node_updLine, x]
  have due : left.dueListAfterLoss l = s.dueListAfterLoss l := by
    simp only [State.dueListAfterLoss, line_left, hf.transaction, hf.dueList, left, State.attached_updLine, x]
  have recovery : left.recoveryTimersAfterLoss l = s.recoveryTimersAfterLoss l := by
    simp only [State.recoveryTimersAfterLoss, line_left, hf.transaction, hf.recoveryTimers, hf.settings, left,
      State.attached_updLine, State.updLine_partTime, x]
  rw [replies, reserved] at lost
  obtain ⟨marked, reported, pending⟩ :=
    ((lost.after (s.updLine_sameMessages l f)).sameMessages (State.updLine_sameMessages _ l g)).mark (.lineState l)
  refine ⟨marked, reported, pending, ?_⟩
  have base : (left.workLost l).updLine l g = { s.setLine l (s.lineLeft l f g) with nodes := s.nodesAfterLoss l } := by
    rw [State.workLost, nodes, due, recovery, line_left]
    cases l <;> rfl
  exact base ▸ (core.updLine l g).trans (State.mark_queueOnly _ _)

theorem Line.leaveService_sameWork (x : Line) (state : LineState) : x.SameWork (x.leaveService state) := by constructor <;> rfl

/-- The last changes of a line that enters FAULT (R62). -/
def Line.faulted (x : Line) (cause : FaultCause) : Line :=
  { x with faultCause := cause, collisionRun := 0, counters := { x.counters with faults := countUp x.counters.faults } }

/-- A line as it is switched OFF, its work still to be lost (R65). -/
def Line.switchedOff (x : Line) : Line := { x.leaveService .off with enabled := false, reception := none }

theorem Line.switchedOff_sameWork (x : Line) : x.SameWork x.switchedOff := by constructor <;> rfl

theorem State.enterFault_eq (s : State) (l : LineId) (cause : FaultCause) : s.enterFault l cause =
    s.leave l (fun x => x.leaveService .fault) .lineFault fun x => x.faulted cause := rfl

theorem State.enterOff_eq (s : State) (l : LineId) : s.enterOff l =
    s.leave l Line.switchedOff .lineOff fun x => { x with collisionRun := 0 } := rfl

/-- The node table of a state that differs from one with the nodes of a loss in the message side alone (R14, R19 to R21). -/
theorem State.node_of_nodesAfterLoss {s t : State} {l : LineId} (h : t.nodes = s.nodesAfterLoss l) (j : Index) :
    t.node j = if (s.line l).inFlightNode = some j then (s.node j).bind Node.afterLoss else s.node j := by
  rw [State.node, h, s.nodesAfterLoss_get l j]

theorem exec_stuckSpaceExpiry_of_awake {s : State} (h : s.resetting = none) (l : LineId) :
    exec (.stuckSpaceExpiry l) s = .next (if (s.line l).state ≠ .off ∧ (s.line l).state ≠ .fault ∧ (s.line l).pinMark = false then
      s.enterFault l .stuck else s) := by
  show execStuckSpaceExpiry l s = _
  rw [execStuckSpaceExpiry, State.awake_of_none h]

/-- Settles O37: a watched line with its pin at space enters FAULT, which is the loss of its work between two changes of the line. -/
theorem stuckSpaceEntersFault : Obligations.StuckSpaceEntersFault := by
  refine ⟨fun s l hs => ⟨fun hoff hfault hpin => ?_, fun h => ?_⟩, fun s l cause => ?_⟩
  · rw [exec_stuckSpaceExpiry_of_awake hs, if_pos ⟨hoff, hfault, hpin⟩]
  · rw [exec_stuckSpaceExpiry_of_awake hs, if_neg]
    rintro ⟨hoff, hfault, hpin⟩
    rcases h with h | h | h
    · exact hoff h
    · exact hfault h
    · rw [h] at hpin; cases hpin
  · intro x t
    obtain ⟨⟨appended, tags, reserved, kept⟩, reported, pending, core⟩ :=
      s.leave_spec l (f := fun x => x.leaveService .fault) (fun x => x.faulted cause) (.inr rfl)
        (Line.leaveService_sameWork _ .fault)
    refine ⟨appended, tags, reserved, reported, kept, pending, State.node_of_nodesAfterLoss core.nodes, ?_⟩
    have frame := core.eq
    rw [← core.nodes] at frame
    exact frame

/-! ## LINE DISABLE -/

theorem exec_lineDisable_ready {s : State} {id : SlotId} {rq : Request} {l : LineId} (h : s.ready (some .lineDisable) id rq)
    (hb : lineBody rq.body = some l) : exec .lineDisable s = .next ((s.accept id rq).lineDisable rq l) := by
  show Host.Outcome.next (s.take _ _) = _
  rw [State.take_of_ready h, hb]

theorem State.lineDisable_of_off {s : State} {l : LineId} (h : (s.line l).state = .off) (rq : Request) :
    s.lineDisable rq l = s.answer rq .ok [lineCode l] := if_pos h

theorem State.lineDisable_of_on {s : State} {l : LineId} (h : (s.line l).state ≠ .off) (rq : Request) :
    s.lineDisable rq l = ((s.enterOff l).reportChange).answer rq .ok [lineCode l] := if_neg h

theorem State.attached_congr {s t : State} (h : t.nodes = s.nodes) (i : Index) : t.attached i = s.attached i := by
  simp [State.attached, State.node_congr h]

theorem State.dueListAfterLoss_congr {s t : State} {l : LineId} (hl : t.line l = s.line l) (hn : t.nodes = s.nodes) :
    t.dueListAfterLoss l = s.dueListAfterLoss l := by
  simp only [State.dueListAfterLoss, State.attached_congr hn, hl]

theorem State.recoveryTimersAfterLoss_congr {s t : State} {l : LineId} (hl : t.line l = s.line l) (hn : t.nodes = s.nodes)
    (hp : t.partTime = s.partTime) : t.recoveryTimersAfterLoss l = s.recoveryTimersAfterLoss l := by
  simp only [State.recoveryTimersAfterLoss, State.attached_congr hn, hl, hp]

theorem State.nodesAfterLoss_congr {s t : State} {l : LineId} (hl : t.line l = s.line l) (hn : t.nodes = s.nodes) :
    t.nodesAfterLoss l = s.nodesAfterLoss l := by
  simp only [State.nodesAfterLoss, State.node_congr hn, hl, hn]

theorem QueueOnly.setLine {s t : State} (h : QueueOnly s t) (l : LineId) (x : Line) : QueueOnly (s.setLine l x) (t.setLine l x) :=
  h.updLine l fun _ => x

theorem QueueOnly.setNodes {s t : State} (h : QueueOnly s t) (nodes : Vector (Option Node) 32) :
    QueueOnly { s with nodes := nodes } { t with nodes := nodes } := by
  rw [h.eq]; exact State.messages_queueOnly _ _ _ _ _ _

/-- Settles O11: LINE DISABLE is the loss of the line's work between two changes of the line, a reported change, and the reply. -/
theorem lineDisableTakesLineOff : Obligations.LineDisableTakesLineOff := by
  intro s id rq l hready hbody x reply
  have hkind := hready.2.2.1
  have hres : rq.reservation = 7 := reservation_of_kind hkind
  have hlen : 6 + [lineCode l].length = rq.reservation := by rw [hres]; rfl
  let a := s.accept id rq
  have line_a : a.line l = x := State.line_accept s id rq l
  have nodes_a : a.nodes = s.nodes := State.accept_nodes s id rq
  rw [exec_lineDisable_ready hready hbody]
  refine ⟨fun hon => ?_, fun hoff => ?_⟩
  · let u := (a.enterOff l).reportChange
    have queued_a : ∀ sub, s.noticeQueued sub = a.noticeQueued sub := State.noticeQueued_congr (State.accept_outbound s id rq).symm
    obtain ⟨lost, reported, pending, core⟩ := a.leave_spec l (fun x => { x with collisionRun := 0 }) (.inl rfl)
      (Line.switchedOff_sameWork _)
    rw [← a.enterOff_eq l] at lost reported pending core
    rw [line_a] at lost
    obtain ⟨ms, hout, hrs, htags, hreserved, hkept, hnotices, hqueued⟩ :=
      (lost.sameMessages (State.reportChange_sameMessages _)).answer hkind (s.accept_reserved id rq) .ok hlen
    let left := a.lineLeft l Line.switchedOff fun x => { x with collisionRun := 0 }
    have frame : QueueOnly (State.reportChange { (s.taken id).setLine l left with nodes := a.nodesAfterLoss l })
        (u.answer rq .ok [lineCode l]) := by
      have taken := ((s.taken_queueOnly_accept id rq).setLine l left).setNodes (a.nodesAfterLoss l)
      exact (taken.trans core).reportChange.trans (u.answer_queueOnly rq .ok _)
    have line : (u.answer rq .ok [lineCode l]).line l = left := by
      rw [frame.line]; cases l <;> rfl
    have nodes : (u.answer rq .ok [lineCode l]).nodes = s.nodesAfterLoss l :=
      frame.nodes.trans (State.nodesAfterLoss_congr line_a nodes_a)
    refine ⟨u.answer rq .ok [lineCode l], ms, by rw [State.lineDisable_of_on (line_a ▸ hon)], ?_, hrs, ?_, hreserved, ?_, ?_,
      fun hq => ?_, ?_, ?_, ?_⟩
    · rw [hout, State.accept_outbound]; rfl
    · rw [htags, State.accept_tags, hrs]; rfl
    · exact reported.imp (fun g => hnotices ▸ g) fun g => (hqueued _).trans g
    · exact hkept.congr (by simp [a]) (by simp [a]) queued_a rfl rfl fun _ => rfl
    · exact hnotices ▸ pending (by rw [← queued_a]; exact hq)
    · rw [line]
      simp only [left, State.lineLeft, State.dueListAfterLoss_congr line_a nodes_a,
        State.recoveryTimersAfterLoss_congr line_a nodes_a (State.accept_partTime s id rq), line_a]
      rfl
    · exact State.node_of_nodesAfterLoss nodes
    · rw [line]
      refine frame.eq.trans ?_
      rw [frame.nodes]
      cases id <;> cases l <;> rfl
  · rw [State.lineDisable_of_off (line_a ▸ hoff), s.accept_answer_of_kind id hkind _ hlen]
    rfl

end Sys2Proof.Machine

/-! SUPPORT. What keeps a line in order and its counts in range: the updates of a line, the delivery of outcomes, the arbiter and the
Line Engine (laws L3, L7 and L10). -/

namespace Sys2Proof.Machine

/-! ## A line keeps its order and its ranges -/

/-- Line `y` is in order if line `x` is, and its counts are in range if those of `x` are. -/
structure Line.Keeps (x y : Line) : Prop where
  order : x.InOrder → y.InOrder
  bounds : x.InBounds → y.InBounds

theorem Line.Keeps.refl (x : Line) : x.Keeps x := ⟨id, id⟩

theorem Line.Keeps.trans {x y z : Line} (h : x.Keeps y) (g : y.Keeps z) : x.Keeps z := ⟨g.order ∘ h.order, g.bounds ∘ h.bounds⟩

/-- A line in the same state with the same transaction, that lost some of its queue or its scan job. -/
theorem Line.Keeps.of_less {x y : Line} (hs : y.state = x.state) (ht : y.transaction = x.transaction)
    (hq : y.demandQueue.Sublist x.demandQueue) (hj : x.scan = none → y.scan = none)
    (hb : x.InBounds → y.InBounds) : x.Keeps y := by
  refine ⟨fun h => ⟨?_, ?_, fun ha => ?_, fun ha => ?_, hq.length_le.trans h.queue_bound⟩, hb⟩
  · rw [hs, ht]; exact h.record_present
  · rw [hs, ht]; exact h.record_absent
  · rw [hs] at ha; exact List.sublist_nil.mp (h.away_queue ha ▸ hq)
  · rw [hs] at ha; exact hj (h.away_scan ha)

/-- A line with the same state, transaction, demand queue, scan job and counts. -/
theorem Line.Keeps.of_same {x y : Line} (hs : y.state = x.state) (ht : y.transaction = x.transaction)
    (hq : y.demandQueue = x.demandQueue) (hj : y.scan = x.scan) (hc : y.collisionRun = x.collisionRun)
    (hn : y.streak = x.streak) : x.Keeps y :=
  .of_less hs ht (hq ▸ .refl _) (fun h => hj.trans h) fun h => ⟨hc ▸ h.collisions, hn ▸ h.streak, hj ▸ h.found⟩

/-- A line that is busy, with a record if an attempt is in flight. -/
theorem Line.Keeps.of_busy {x y : Line} (hs : y.state.busy = true) (ht : y.state.attempting = true → y.transaction ≠ none)
    (hq : y.demandQueue.length ≤ x.demandQueue.length) (hb : x.InBounds → y.InBounds) : x.Keeps y := by
  have busy : y.state.away = false := by cases h : y.state <;> simp_all [LineState.busy, LineState.away]
  refine ⟨fun h => ⟨ht, fun hn => ?_, fun ha => ?_, fun ha => ?_, hq.trans h.queue_bound⟩, hb⟩
  · rw [hs] at hn; cases hn
  · rw [busy] at ha; cases ha
  · rw [busy] at ha; cases ha

theorem Line.startAttempt_keeps {x y : Line} (t : Transaction) (hq : y.demandQueue.length ≤ x.demandQueue.length)
    (hb : x.InBounds → y.InBounds) : x.Keeps (y.startAttempt t) :=
  .of_busy rfl (fun _ => nofun) hq fun h => ⟨(hb h).collisions, (hb h).streak, (hb h).found⟩

theorem Line.endScan_keeps (x : Line) : x.Keeps { x with scan := none } :=
  .of_less rfl rfl (.refl _) (fun _ => rfl) fun h => ⟨h.collisions, h.streak, fun _ hj => nomatch hj⟩

/-! ## Both lines -/

/-- An operation keeps each line in order and its counts in range. -/
def State.KeepsLines (s t : State) : Prop := ∀ l, (s.line l).Keeps (t.line l)

theorem State.KeepsLines.refl (s : State) : s.KeepsLines s := fun _ => .refl _

theorem State.KeepsLines.trans {s t u : State} (h : s.KeepsLines t) (g : t.KeepsLines u) : s.KeepsLines u :=
  fun l => (h l).trans (g l)

theorem State.KeepsLines.of_lines {s t : State} (h : ∀ l, t.line l = s.line l) : s.KeepsLines t := fun l => h l ▸ .refl _

theorem QueueOnly.keepsLines {s t : State} (h : QueueOnly s t) : s.KeepsLines t := .of_lines h.line

theorem State.updLine_keepsLines {s : State} {l : LineId} {f : Line → Line} (h : (s.line l).Keeps (f (s.line l))) :
    s.KeepsLines (s.updLine l f) := fun k => by
  by_cases hk : k = l
  · subst hk; rw [State.line_updLine_same]; exact h
  · rw [State.line_updLine_other s f hk]; exact .refl _

theorem State.setNode_keepsLines (s : State) (i : Index) (m : Option Node) : s.KeepsLines (s.setNode i m) :=
  .of_lines (s.line_setNode i m)

theorem State.answer_keepsLines (s : State) (rq : Request) (status : Status) (data : List Byte) :
    s.KeepsLines (s.answer rq status data) := (s.answer_queueOnly rq status data).keepsLines

/-! ## Outcomes -/

theorem State.endScan_keepsLines (s : State) (l : LineId) (status : Status) : s.KeepsLines (s.endScan l status) :=
  (State.updLine_keepsLines (Line.endScan_keeps _)).trans (s.endScan_settles l status).posts.core.keepsLines

theorem State.purge_keepsLines (s : State) (l : LineId) (i : Index) (status : Status) : s.KeepsLines (s.purge l i status) :=
  (State.updLine_keepsLines (.of_less rfl rfl List.filter_sublist id fun h => ⟨h.collisions, h.streak, h.found⟩)).trans
    (s.purge_settles l i status).posts.core.keepsLines

theorem State.withhold_keepsLines (s : State) (l : LineId) (i : Index) (m : Node) (status : Status) :
    s.KeepsLines (s.withhold l i m status) :=
  ((s.setNode_keepsLines i _).trans (State.updLine_keepsLines (.of_same rfl rfl rfl rfl rfl rfl))).trans
    (State.purge_keepsLines _ l i status)

theorem State.armRecovery_keepsLines (s : State) (l : LineId) (i : Index) : s.KeepsLines (s.armRecovery l i) :=
  State.updLine_keepsLines (.of_same rfl rfl rfl rfl rfl rfl)

theorem State.makeDue_keepsLines (s : State) (l : LineId) (i : Index) : s.KeepsLines (s.makeDue l i) :=
  State.updLine_keepsLines (.of_same rfl rfl rfl rfl rfl rfl)

theorem State.goOffline_keepsLines (s : State) (l : LineId) (i : Index) (n : Node) : s.KeepsLines (s.goOffline l i n) := by
  rw [State.goOffline_eq]
  exact ((s.withhold_keepsLines l i _ _).trans (State.mark_queueOnly _ _).keepsLines).trans (State.armRecovery_keepsLines _ l i)

theorem State.applyService_keepsLines (s : State) (l : LineId) (i : Index) (n : Node) (o : FieldOutcome) :
    s.KeepsLines (s.applyService l i n o) := by
  have answered : ∀ k : Node, s.KeepsLines
      (if n.state = .new then (s.setNode i (some k)).mark (.nodeState i) else s.setNode i (some k)) := fun k => by
    split
    · exact (s.setNode_keepsLines i _).trans (State.mark_queueOnly _ _).keepsLines
    · exact s.setNode_keepsLines i _
  cases o with
  | ok content => exact answered n.answeredOk
  | exception reason => exact answered (n.answeredException reason)
  | collision | lineOff | lineFault => exact s.setNode_keepsLines i _
  | timeout | corrupt =>
    rw [State.applyService_failed s l i n (by simp)]
    split
    · exact s.setNode_keepsLines i _
    · exact s.goOffline_keepsLines l i n

theorem State.comeBack_keepsLines (s : State) (l : LineId) (i : Index) (n : Node) : s.KeepsLines (s.comeBack l i n) := by
  rw [State.comeBack_eq]
  exact ((s.setNode_keepsLines i _).trans (State.mark_queueOnly _ _).keepsLines).trans
    (State.updLine_keepsLines (.of_same rfl rfl rfl rfl rfl rfl))

theorem State.applyProbe_keepsLines (s : State) (l : LineId) (i : Index) (n : Node) (o : FieldOutcome) :
    s.KeepsLines (s.applyProbe l i n o) := by
  cases o with
  | ok content => exact s.comeBack_keepsLines l i n.answeredOk
  | exception reason => exact s.comeBack_keepsLines l i (n.answeredException reason)
  | timeout | corrupt | collision | lineOff | lineFault =>
    exact (s.setNode_keepsLines i _).trans (State.armRecovery_keepsLines _ l i)

theorem State.applyOutcome_keepsLines (s : State) (l : LineId) (i : Index) (probe : Bool) (o : FieldOutcome) :
    s.KeepsLines (s.applyOutcome l i probe o) := by
  unfold State.applyOutcome
  split
  · exact .refl s
  · split
    · exact .refl s
    · exact s.setNode_keepsLines i _
    · split
      · exact s.applyProbe_keepsLines l i _ o
      · exact s.applyService_keepsLines l i _ o

theorem State.rearmPoll_keepsLines (s : State) (l : LineId) (i : Index) (due : Word) : s.KeepsLines (s.rearmPoll l i due) := by
  have armed : ∀ w, s.KeepsLines (s.updLine l fun x => x.setPollTimer i w) := fun w =>
    State.updLine_keepsLines (.of_same rfl rfl rfl rfl rfl rfl)
  unfold State.rearmPoll
  split
  · exact .refl s
  · dsimp only
    split
    · exact armed _
    · exact (armed _).trans (State.setNode_keepsLines _ i _)

theorem State.afterPoll_keepsLines (s : State) (l : LineId) (i : Index) (due : Word) (o : FieldOutcome) :
    s.KeepsLines (s.afterPoll l i due o) := by
  have unlessOffline : s.KeepsLines (if (s.node i).map Node.state = some .offline then s else s.rearmPoll l i due) := by
    split
    · exact .refl s
    · exact s.rearmPoll_keepsLines l i due
  cases o with
  | ok payload => exact (State.KeepsLines.of_lines (s.storeSnapshot_line i payload)).trans (State.rearmPoll_keepsLines _ l i due)
  | exception | collision => exact s.rearmPoll_keepsLines l i due
  | timeout | corrupt => exact unlessOffline
  | lineOff | lineFault => exact State.updLine_keepsLines (.of_same rfl rfl rfl rfl rfl rfl)

/-- A job that goes on after a test has fewer finds than the found list holds (R129). -/
theorem ScanJob.found_of_not_ending {j : ScanJob} (h : j.ending = none) : j.found.length < Config.foundListCapacity := by
  by_contra hf
  rw [ScanJob.ending_eq] at h
  split at h
  · cases h
  · rw [if_pos (show 16 ≤ j.found.length from Nat.not_lt.mp hf)] at h; cases h

theorem State.scanResult_keepsLines (s : State) (l : LineId) (address : Byte) (o : FieldOutcome) :
    s.KeepsLines (s.scanResult l address o) := by
  cases hj : (s.line l).scan with
  | none => rw [State.scanResult_of_none hj]; exact .refl s
  | some j =>
    have recorded (hf : (∀ k, (s.line l).scan = some k → k.found.length < Config.foundListCapacity) →
        (j.record address o).found.length < Config.foundListCapacity) :
        s.KeepsLines (s.updLine l fun x => { x with scan := some (j.record address o) }) := by
      refine State.updLine_keepsLines (.of_less rfl rfl (.refl _) (fun h => ?_) fun h => ⟨h.collisions, h.streak, ?_⟩)
      · rw [hj] at h; cases h
      · rintro k ⟨⟩; exact hf h.found
    rw [State.scanResult_of_some hj]
    split
    · rename_i ho
      have same : (j.record address o).found = j.found := by rcases ho with rfl | rfl <;> rfl
      exact recorded fun h => same ▸ h j hj
    · cases he : (j.record address o).ending with
      | none => exact recorded fun _ => ScanJob.found_of_not_ending he
      | some status =>
        have core := ((s.updLine l fun x => { x with scan := some (j.record address o) }).endScan_settles l status).posts.core
        rw [State.updLine_updLine] at core
        exact (State.updLine_keepsLines (Line.endScan_keeps _)).trans core.keepsLines

theorem State.deliver_keepsLines (s : State) (l : LineId) (t : Transaction) (o : FieldOutcome) :
    s.KeepsLines (s.deliver l t o) := by
  unfold State.deliver
  split
  · split
    · exact (s.applyOutcome_keepsLines l _ false o).trans (State.afterPoll_keepsLines _ l _ _ o)
    · exact s.applyOutcome_keepsLines l _ false o
  · exact s.applyOutcome_keepsLines l _ true o
  · exact (s.deferredReply_queueOnly _ _ _).keepsLines.trans (State.applyOutcome_keepsLines _ l _ false o)
  · exact (s.deferredReply_queueOnly _ _ _).keepsLines
  · exact s.scanResult_keepsLines l _ o

/-! ## The arbiter -/

theorem streakUp_le {n : Nat} (h : n ≤ Config.streakLimit) : streakUp n ≤ Config.streakLimit := by
  unfold streakUp
  split
  · assumption
  · exact h

theorem State.startOnNode_keepsLines (s : State) {l : LineId} {leave : Line → Line}
    (hq : (leave (s.line l)).demandQueue.length ≤ (s.line l).demandQueue.length)
    (hb : (s.line l).InBounds → (leave (s.line l)).InBounds) (i : Index) (n : Node) (kind : TransactionKind) (op : Operation)
    (allowed : Nat) : s.KeepsLines (s.startOnNode l i n kind op allowed leave) :=
  (s.setNode_keepsLines i _).trans (State.updLine_keepsLines (by
    rw [State.line_setNode]; exact Line.startAttempt_keeps _ hq hb))

theorem State.startOnLine_keepsLines (s : State) {l : LineId} {leave : Line → Line}
    (hq : (leave (s.line l)).demandQueue.length ≤ (s.line l).demandQueue.length)
    (hb : (s.line l).InBounds → (leave (s.line l)).InBounds) (kind : TransactionKind) (target : Byte) (op : Operation)
    (timeout : Option Byte) : s.KeepsLines (s.startOnLine l kind target op timeout leave) :=
  State.updLine_keepsLines (Line.startAttempt_keeps _ hq fun h => ⟨(hb h).collisions, (hb h).streak, (hb h).found⟩)

theorem State.startDemand_keepsLines {s : State} {l : LineId} {e : DemandEntry} {rest : List DemandEntry}
    (h : (s.line l).demandQueue = e :: rest) : s.KeepsLines (s.startDemand l e rest) := by
  have shorter : rest.length ≤ (s.line l).demandQueue.length := by rw [h]; exact Nat.le_succ _
  unfold State.startDemand
  dsimp only
  split
  · exact s.startOnLine_keepsLines shorter (fun h => ⟨h.collisions, streakUp_le h.streak, h.found⟩) _ _ _ _
  · split
    · exact .refl s
    · exact s.startOnNode_keepsLines shorter (fun h => ⟨h.collisions, streakUp_le h.streak, h.found⟩) _ _ _ _ _

theorem State.startDue_keepsLines (s : State) (l : LineId) (e : DueEntry) (rest : List DueEntry) :
    s.KeepsLines (s.startDue l e rest) := by
  have leaves (i : Index) (n : Node) (kind : TransactionKind) (op : Operation) (allowed : Nat) :
      s.KeepsLines (s.startOnNode l i n kind op allowed fun x => { x with dueList := rest, streak := 0 }) :=
    s.startOnNode_keepsLines (Nat.le_refl _) (fun h => ⟨h.collisions, Nat.zero_le _, h.found⟩) i n kind op allowed
  unfold State.startDue
  dsimp only
  split
  · exact .refl s
  · split
    · exact leaves _ _ _ _ _
    · split
      · exact .refl s
      · exact leaves _ _ _ _ _

theorem State.startScanProbe_keepsLines {s : State} {l : LineId} {j : ScanJob} (hj : (s.line l).scan = some j) :
    s.KeepsLines (s.startScanProbe l j) := by
  unfold State.startScanProbe
  extract_lets next
  split
  · refine (State.updLine_keepsLines (.of_less rfl rfl (.refl _) (fun h => ?_) fun h => ⟨h.collisions, h.streak, ?_⟩)).trans
      (State.endScan_keepsLines _ l _)
    · rw [hj] at h; cases h
    · rintro k ⟨⟩; exact h.found j hj
  · refine s.startOnLine_keepsLines (Nat.le_refl _) (fun h => ⟨h.collisions, h.streak, ?_⟩) _ _ _ _
    rintro k ⟨⟩; exact h.found j hj

theorem State.askArbiter_keepsLines (s : State) (l : LineId) : s.KeepsLines (s.askArbiter l) := by
  unfold State.askArbiter State.choose
  split
  · split
    · exact State.startDemand_keepsLines ‹_›
    · split
      · exact s.startDue_keepsLines l _ _
      · exact State.startDemand_keepsLines ‹_›
    · exact s.startDue_keepsLines l _ _
    · exact State.startScanProbe_keepsLines ‹_›
    · exact .refl s
  · exact .refl s

theorem State.makeDueNow_keepsLines (s : State) (l : LineId) (i : Index) : s.KeepsLines (s.makeDueNow l i) :=
  (s.makeDue_keepsLines l i).trans (State.askArbiter_keepsLines _ l)

theorem State.timerExpires_keepsLines (s : State) (l : LineId) (i : Index) (kind : DueKind) (due : Word) :
    s.KeepsLines (s.timerExpires l i kind due) := by
  refine State.KeepsLines.trans (State.updLine_keepsLines ?_) (State.askArbiter_keepsLines _ l)
  cases kind <;> exact .of_same rfl rfl rfl rfl rfl rfl

/-! ## The Line Engine -/

theorem State.countFlight_keepsLines (s : State) (k : TransactionKind) (o : FieldOutcome) : s.KeepsLines (s.countFlight k o) := by
  unfold State.countFlight
  split
  · rename_i i _
    rcases s.countAttempt_cases i o with h | ⟨n, c, -, -, h⟩ <;> rw [h]
    · exact .refl s
    · exact s.setNode_keepsLines i _
  · exact .refl s

theorem collisionRunAfter_le (run : Nat) (o : FieldOutcome) : collisionRunAfter run o ≤ run := by
  rw [collisionRunAfter_eq]
  split
  · exact Nat.le_refl _
  · exact Nat.zero_le _

theorem State.endAttempt_keepsLines (s : State) (l : LineId) (o : FieldOutcome) (kind : GuardKind) :
    s.KeepsLines (s.endAttempt l o kind) := by
  cases ht : (s.line l).transaction with
  | none =>
    unfold State.endAttempt
    rw [ht]
    exact .refl s
  | some t =>
    have guarded : (s.line l).Keeps ((s.line l).endsAttempt t o kind) := .of_busy rfl nofun (Nat.le_refl _) fun h =>
      ⟨Nat.lt_of_le_of_lt (collisionRunAfter_le _ o) h.collisions, h.streak, h.found⟩
    have counted := (State.updLine_keepsLines (f := fun x => x.endsAttempt t o kind) guarded).trans (State.countFlight_keepsLines _ t.kind o)
    rw [State.endAttempt_of_some ht]
    split
    · exact counted
    · exact counted.trans (State.deliver_keepsLines _ l t o)

theorem State.leave_line (s : State) (l : LineId) {f : Line → Line} (g : Line → Line) {o : FieldOutcome} (ho : o.lost)
    (hf : (s.line l).SameWork (f (s.line l))) : (s.leave l f o g).line l = s.lineLeft l f g := by
  obtain ⟨-, -, -, core⟩ := s.leave_spec l g ho hf
  rw [core.line]
  cases l <;> rfl

theorem State.leave_line_other (s : State) {l k : LineId} (hk : k ≠ l) {f : Line → Line} (g : Line → Line) {o : FieldOutcome}
    (ho : o.lost) (hf : (s.line l).SameWork (f (s.line l))) : (s.leave l f o g).line k = s.line k := by
  obtain ⟨-, -, -, core⟩ := s.leave_spec l g ho hf
  rw [core.line, ← State.line_setLine_other s (s.lineLeft l f g) hk]
  cases k <;> rfl

/-- A line away from service without any work is in order (law L10). -/
theorem Line.InOrder.of_away {x : Line} (hs : x.state.away = true) (ht : x.transaction = none) (hq : x.demandQueue = [])
    (hj : x.scan = none) : x.InOrder := by
  have idle : x.state.attempting = false := by cases h : x.state <;> simp_all [LineState.away, LineState.attempting]
  exact ⟨fun ha => absurd (idle.symm.trans ha) nofun, fun _ => ht, fun _ => hq, fun _ => hj, hq ▸ Nat.zero_le _⟩

/-- FAULT is entered in order, and with the run of collisions ended (R62, R63). -/
theorem State.enterFault_keeps (s : State) (l : LineId) (cause : FaultCause) {x : Line} (hs : (s.line l).streak = x.streak) :
    x.Keeps ((s.enterFault l cause).line l) := by
  rw [State.enterFault_eq, State.leave_line s l _ (.inr rfl) (Line.leaveService_sameWork _ .fault)]
  exact ⟨fun _ => .of_away rfl rfl rfl rfl, fun h => ⟨(by decide : 0 < Config.collisionLimit), hs ▸ h.streak, fun _ hj => nomatch hj⟩⟩

theorem State.enterFault_line_other (s : State) {l k : LineId} (hk : k ≠ l) (cause : FaultCause) :
    (s.enterFault l cause).line k = s.line k :=
  s.leave_line_other hk (f := fun x => x.leaveService .fault) _ (.inr rfl) (Line.leaveService_sameWork _ .fault)

theorem State.enterFault_keepsLines (s : State) (l : LineId) (cause : FaultCause) : s.KeepsLines (s.enterFault l cause) := fun k => by
  by_cases hk : k = l
  · subst hk; exact s.enterFault_keeps k cause rfl
  · rw [s.enterFault_line_other hk]; exact .refl _

theorem State.enterOff_keepsLines (s : State) (l : LineId) : s.KeepsLines (s.enterOff l) := fun k => by
  rw [State.enterOff_eq]
  by_cases hk : k = l
  · subst hk
    rw [State.leave_line s k _ (.inl rfl) (Line.switchedOff_sameWork _)]
    exact ⟨fun _ => .of_away rfl rfl rfl rfl, fun h => ⟨(by decide : 0 < Config.collisionLimit), h.streak, fun _ hj => nomatch hj⟩⟩
  · rw [s.leave_line_other hk _ (.inl rfl) (Line.switchedOff_sameWork _)]; exact .refl _

/-- A failed echo counts a collision, and the count stays below the limit or ends in FAULT (R52, R63). -/
theorem State.echoFails_keepsLines (s : State) (l : LineId) : s.KeepsLines (s.echoFails l) := by
  unfold State.echoFails
  extract_lets counted
  have line_l : counted.line l = _ := s.line_updLine_same l _
  split
  · intro k
    by_cases hk : k = l
    · subst hk; exact counted.enterFault_keeps k _ (by rw [line_l])
    · rw [counted.enterFault_line_other hk, State.line_updLine_other s _ hk]; exact .refl _
  · rename_i below
    rw [line_l] at below
    refine (State.updLine_keepsLines (.of_less rfl rfl (.refl _) id fun h => ?_)).trans (State.endAttempt_keepsLines _ l _ _)
    exact ⟨Nat.not_le.mp below, h.streak, h.found⟩

theorem State.sendingEnds_keepsLines (s : State) (l : LineId) : s.KeepsLines (s.sendingEnds l) := by
  obtain h | ⟨t, ht, -, -, ⟨-, h⟩ | ⟨-, -, h⟩ | ⟨-, -, h⟩⟩ := s.sendingEnds_cases l <;> rw [h]
  · exact .refl s
  · exact s.endAttempt_keepsLines l _ _
  · exact s.endAttempt_keepsLines l _ _
  · exact State.updLine_keepsLines (.of_busy rfl (fun _ => by rw [ht]; nofun) (Nat.le_refl _)
      fun h => ⟨h.collisions, h.streak, h.found⟩)

theorem State.takeEcho_keepsLines (s : State) (l : LineId) (begun : Nat) (data : Byte) (mark good : Bool) :
    s.KeepsLines (s.takeEcho l begun data mark good) := by
  unfold State.takeEcho
  dsimp only
  split
  · exact (State.updLine_keepsLines (.of_same rfl rfl rfl rfl rfl rfl)).trans (State.sendingEnds_keepsLines _ l)
  · exact s.echoFails_keepsLines l

theorem State.countLine_keepsLines (s : State) (l : LineId) (f : LineCounters → LineCounters) : s.KeepsLines (s.countLine l f) :=
  State.updLine_keepsLines (.of_same rfl rfl rfl rfl rfl rfl)

theorem State.setOpenFrame_keepsLines (s : State) (l : LineId) (frame : Option (List Byte)) :
    s.KeepsLines (s.setOpenFrame l frame) := State.updLine_keepsLines (.of_same rfl rfl rfl rfl rfl rfl)

theorem State.openStray_keepsLines (s : State) (l : LineId) (data : Byte) : s.KeepsLines (s.openStray l data) :=
  (s.countLine_keepsLines l _).trans (State.setOpenFrame_keepsLines _ l _)

theorem State.takeOutside_keepsLines (s : State) (l : LineId) (data : Byte) (mark good : Bool) :
    s.KeepsLines (s.takeOutside l data mark good) := by
  unfold State.takeOutside
  split
  · split
    · exact s.openStray_keepsLines l data
    · split
      · exact s.countLine_keepsLines l _
      · split <;> exact s.setOpenFrame_keepsLines l _
  · exact (s.countLine_keepsLines l _).trans (State.setOpenFrame_keepsLines _ l _)

section
variable {s : State} {l : LineId} {t : Transaction} (ht : (s.line l).transaction = some t)
include ht

theorem State.takeWaiting_keepsLines (data : Byte) (mark good : Bool) : s.KeepsLines (s.takeWaiting l t data mark good) := by
  unfold State.takeWaiting
  split
  · exact State.updLine_keepsLines (.of_busy rfl (fun _ => by rw [ht]; nofun) (Nat.le_refl _)
      fun h => ⟨h.collisions, h.streak, h.found⟩)
  · exact s.takeOutside_keepsLines l data mark good

theorem State.discardCandidate_keepsLines : s.KeepsLines (s.discardCandidate l) := by
  unfold State.discardCandidate
  extract_lets closed
  have line : (closed.line l).transaction = some t := by
    simp only [closed, State.setOpenFrame, State.countLine, State.line_updLine_same]; exact ht
  have close : s.KeepsLines closed := (s.countLine_keepsLines l _).trans (State.setOpenFrame_keepsLines _ l none)
  refine close.trans ?_
  split
  · exact State.endAttempt_keepsLines _ l _ _
  · exact State.updLine_keepsLines (.of_busy rfl (fun _ => by rw [line]; nofun) (Nat.le_refl _)
      fun h => ⟨h.collisions, h.streak, h.found⟩)

omit ht in
theorem State.breakCandidate_keepsLines : s.KeepsLines (s.breakCandidate l) :=
  (s.setOpenFrame_keepsLines l none).trans (State.endAttempt_keepsLines _ l _ _)

theorem State.takeReceiving_keepsLines (data : Byte) (mark good : Bool) : s.KeepsLines (s.takeReceiving l t data mark good) := by
  unfold State.takeReceiving
  split
  · split
    · exact State.breakCandidate_keepsLines.trans (State.openStray_keepsLines _ l data)
    · split
      · exact s.setOpenFrame_keepsLines l _
      · exact State.breakCandidate_keepsLines
      · split
        · exact State.discardCandidate_keepsLines ht
        · exact (s.setOpenFrame_keepsLines l none).trans (State.endAttempt_keepsLines _ l _ _)
  · exact (s.countLine_keepsLines l _).trans State.breakCandidate_keepsLines

end

theorem State.takeCharacter_keepsLines (s : State) (l : LineId) (data : Byte) (mark good : Bool) :
    s.KeepsLines (s.takeCharacter l data mark good) := by
  unfold State.takeCharacter
  extract_lets x finished
  have line : (finished.line l).transaction = x.transaction := by rw [State.line_updLine_same]; rfl
  refine State.KeepsLines.trans (t := finished) (State.updLine_keepsLines (.of_same rfl rfl rfl rfl rfl rfl)) ?_
  split
  · exact .refl _
  · exact .refl _
  · exact .refl _
  · exact finished.takeEcho_keepsLines l _ data mark good
  · exact finished.takeEcho_keepsLines l _ data mark good
  · exact .refl _
  · rename_i ht _; exact State.takeWaiting_keepsLines (line.trans ht) data mark good
  · rename_i ht _; exact State.takeReceiving_keepsLines (line.trans ht) data mark good
  · exact finished.takeOutside_keepsLines l data mark good

end Sys2Proof.Machine

/-! SUPPORT. Every command keeps both lines in order and their counts in range (laws L3, L7 and L10). -/

namespace Sys2Proof.Machine

/-! ## Requests and events in general -/

theorem State.accept_keepsLines (s : State) (id : SlotId) (rq : Request) : s.KeepsLines (s.accept id rq) :=
  .of_lines (s.line_accept id rq)

/-- A request row keeps the lines if its owner's rule does. -/
theorem State.take_keepsLines (s : State) (k : Option RequestKind) {owner : Request → State → State}
    (h : ∀ rq (u : State), u.KeepsLines (owner rq u)) : s.KeepsLines (s.take k owner) := by
  obtain e | ⟨id, rq, -, e⟩ := s.take_cases k owner <;> rw [e]
  · exact .refl s
  · exact (s.accept_keepsLines id rq).trans (h rq _)

theorem State.awake_keepsLines (s : State) {f : State → State} (h : s.KeepsLines (f s)) : s.KeepsLines (s.awake f) := by
  obtain e | ⟨-, e⟩ := s.awake_cases f <;> rw [e]
  · exact .refl s
  · exact h

theorem State.onNode_keepsLines (s : State) (index : Nat) {f : Index → Node → State} (h : ∀ i n, s.KeepsLines (f i n)) :
    s.KeepsLines (s.onNode index f) := by
  obtain e | ⟨i, n, -, e⟩ := s.onNode_cases index f <;> rw [e]
  · exact .refl s
  · exact h i n

theorem State.inPhase_keepsLines (s : State) (number : Nat) (phases : List SavePhase)
    {f : Byte → Image → SlotId → Word → State} (h : ∀ tag image target generation, s.KeepsLines (f tag image target generation)) :
    s.KeepsLines (s.inPhase number phases f) := by
  obtain e | ⟨tag, p, image, target, generation, -, -, -, e⟩ := s.inPhase_cases number phases f <;> rw [e]
  · exact .refl s
  · exact h _ _ _ _

theorem State.inErase_keepsLines (s : State) (number : Nat) {f : Byte → SlotId → List SlotId → Bool → State}
    (h : ∀ tag slot rest held, s.KeepsLines (f tag slot rest held)) : s.KeepsLines (s.inErase number f) := by
  obtain e | ⟨tag, slot, rest, held, -, -, e⟩ := s.inErase_cases number f <;> rw [e]
  · exact .refl s
  · exact h _ _ _ _

theorem State.reportChange_keepsLines (s : State) : s.KeepsLines s.reportChange := .of_lines s.line_reportChange

/-! ## The line requests -/

theorem State.setLine_keepsLines {s : State} {l : LineId} {x : Line} (h : (s.line l).Keeps x) : s.KeepsLines (s.setLine l x) :=
  State.updLine_keepsLines (f := fun _ => x) h

theorem State.lineSet_keepsLines (s : State) (rq : Request) (l : LineId) (settings : LineSettings) :
    s.KeepsLines (s.lineSet rq l settings) := by
  unfold State.lineSet
  extract_lets x set_ reported
  have hset : s.KeepsLines set_ := State.setLine_keepsLines (.of_same rfl rfl rfl rfl rfl rfl)
  have hreported : set_.KeepsLines reported := by
    simp only [reported]
    split
    · exact .refl set_
    · exact set_.reportChange_keepsLines
  split
  · exact (hset.trans hreported).trans (State.answer_keepsLines _ rq _ _)
  · exact s.answer_keepsLines rq _ _

/-- A line that leaves OFF has no record, so it may be IDLE (R56, R66). -/
theorem Line.enable_keeps {x : Line} (h : x.state = .off) : x.Keeps { x with state := .idle, enabled := true, collisionRun := 0 } := by
  refine ⟨fun g => ⟨nofun, fun _ => g.record_absent (by rw [h]; rfl), nofun, nofun, g.queue_bound⟩, fun g => ?_⟩
  exact ⟨(by decide : 0 < Config.collisionLimit), g.streak, g.found⟩

theorem State.lineEnable_keepsLines (s : State) (rq : Request) (l : LineId) : s.KeepsLines (s.lineEnable rq l) := by
  unfold State.lineEnable
  extract_lets up marked reported answered
  split
  · have hup : s.KeepsLines up := State.updLine_keepsLines (Line.enable_keeps ‹_›)
    have hmarked : up.KeepsLines marked := (up.mark_queueOnly _).keepsLines
    have hanswered : marked.KeepsLines answered := marked.reportChange_keepsLines.trans (State.answer_keepsLines _ rq _ _)
    exact ((hup.trans hmarked).trans hanswered).trans (answered.askArbiter_keepsLines l)
  · exact s.answer_keepsLines rq _ _

theorem State.lineDisable_keepsLines (s : State) (rq : Request) (l : LineId) : s.KeepsLines (s.lineDisable rq l) := by
  unfold State.lineDisable
  split
  · exact s.answer_keepsLines rq _ _
  · exact ((s.enterOff_keepsLines l).trans (State.reportChange_keepsLines _)).trans (State.answer_keepsLines _ rq _ _)

theorem State.lineInfo_keepsLines (s : State) (rq : Request) (l : LineId) (clear : Bool) : s.KeepsLines (s.lineInfo rq l clear) := by
  unfold State.lineInfo
  extract_lets x cleared
  have hcleared : s.KeepsLines cleared := by
    simp only [cleared]
    split
    · exact State.setLine_keepsLines (.of_same rfl rfl rfl rfl rfl rfl)
    · exact .refl s
  exact hcleared.trans (State.answer_keepsLines _ rq _ _)

/-! ## The node requests -/

theorem State.nodeAdd_keepsLines (s : State) (rq : Request) (c : NodeConfig) (startDisabled : Bool) :
    s.KeepsLines (s.nodeAdd rq c startDisabled) := by
  cases held : s.addressHeld c.line c.address with
  | true => rw [State.nodeAdd_of_held held]; exact s.answer_keepsLines rq _ _
  | false =>
    cases hi : s.freeIndex with
    | none => rw [State.nodeAdd_of_full held hi]; exact s.answer_keepsLines rq _ _
    | some i =>
      have added : s.KeepsLines (s.added rq c startDisabled i) := .of_lines (s.added_line rq c startDisabled i)
      rw [State.nodeAdd_of_free held hi]
      split
      · exact added.trans (State.makeDueNow_keepsLines _ _ i)
      · exact added

theorem State.nodeSet_keepsLines (s : State) (rq : Request) (i : Index) (c : NodeConfig) : s.KeepsLines (s.nodeSet rq i c) := by
  obtain ⟨status, data, e⟩ | ⟨n, -, -, -, -, e⟩ := s.nodeSet_cases rq i c <;> rw [e]
  · exact s.answer_keepsLines rq _ _
  · refine State.KeepsLines.trans (.of_lines fun l => ?_) (State.answer_keepsLines _ rq _ _)
    unfold State.configured
    split <;> simp

theorem State.nodeRemove_keepsLines (s : State) (rq : Request) (i : Index) : s.KeepsLines (s.nodeRemove rq i) := by
  cases hlive : s.liveNode i with
  | none => rw [State.nodeRemove_of_none hlive]; exact s.answer_keepsLines rq _ _
  | some n =>
    rw [State.nodeRemove_of_live hlive]
    have withdrawn := (s.withhold_keepsLines n.config.line i n.remove .nodeRemoved).trans (State.withdraw_queueOnly _ i).keepsLines
    have snapshot : ∀ u : State, u.KeepsLines (u.setSnapshot i none) := fun u => .of_lines (u.line_setSnapshot i none)
    exact (((withdrawn.trans (snapshot _)).trans (State.reportChange_keepsLines _)).trans
      (State.answer_keepsLines _ rq _ _)).trans (State.setNode_keepsLines _ i _)

theorem State.nodeEnable_keepsLines (s : State) (rq : Request) (i : Index) : s.KeepsLines (s.nodeEnable rq i) := by
  cases hlive : s.liveNode i with
  | none => rw [State.nodeEnable_of_none hlive]; exact s.answer_keepsLines rq _ _
  | some n =>
    by_cases hs : n.state = .disabled
    · rw [State.nodeEnable_of_disabled hlive hs]
      extract_lets enabled
      have henabled : s.KeepsLines enabled := (((s.setNode_keepsLines i _).trans (State.mark_queueOnly _ _).keepsLines).trans
        (State.reportChange_keepsLines _)).trans (State.answer_keepsLines _ rq _ _)
      split
      · exact henabled.trans (enabled.makeDueNow_keepsLines _ i)
      · exact henabled
    · rw [State.nodeEnable_of_active hlive hs]; exact s.answer_keepsLines rq _ _

theorem State.nodeDisable_keepsLines (s : State) (rq : Request) (i : Index) : s.KeepsLines (s.nodeDisable rq i) := by
  cases hlive : s.liveNode i with
  | none => rw [State.nodeDisable_of_none hlive]; exact s.answer_keepsLines rq _ _
  | some n =>
    by_cases hs : n.state = .disabled
    · rw [State.nodeDisable_of_disabled hlive hs]; exact s.answer_keepsLines rq _ _
    · rw [State.nodeDisable_eq s rq hlive hs]
      exact (((s.withhold_keepsLines _ i _ _).trans (State.mark_queueOnly _ _).keepsLines).trans
        (State.reportChange_keepsLines _)).trans (State.answer_keepsLines _ rq _ _)

theorem State.nodeInfo_keepsLines (s : State) (rq : Request) (i : Index) (clear : Bool) : s.KeepsLines (s.nodeInfo rq i clear) := by
  unfold State.nodeInfo
  split
  · exact s.answer_keepsLines rq _ _
  · dsimp only
    split
    · exact (s.setNode_keepsLines i _).trans (State.answer_keepsLines _ rq _ _)
    · exact s.answer_keepsLines rq _ _

theorem State.readSnapshot_keepsLines (s : State) (rq : Request) (i : Index) : s.KeepsLines (s.readSnapshot rq i) := by
  unfold State.readSnapshot
  split <;> exact s.answer_keepsLines rq _ _

/-! ## Demands -/

/-- A line that refuses no demand has room in its queue, and is neither OFF nor in FAULT (R109). -/
theorem Line.room_of_refusal {x : Line} (h : x.refusal = none) :
    x.state.away = false ∧ x.demandQueue.length < Config.demandQueueCapacity := by
  unfold Line.refusal at h
  cases hs : x.state <;> simp_all [LineState.away]

theorem Line.addDemand_keeps {x : Line} (h : x.refusal = none) (e : DemandEntry) :
    x.Keeps { x with demandQueue := x.demandQueue ++ [e] } := by
  obtain ⟨near, room⟩ := Line.room_of_refusal h
  refine ⟨fun g => ⟨g.record_present, g.record_absent, fun ha => ?_, g.away_scan, ?_⟩, fun g => ⟨g.collisions, g.streak, g.found⟩⟩
  · cases near.symm.trans ha
  · simpa using room

theorem State.acceptDemand_keepsLines {s : State} {l : LineId} (h : (s.line l).refusal = none) (e : DemandEntry) :
    s.KeepsLines (s.acceptDemand l e) := by
  have tagged : s.KeepsLines (s.addTag e.tag) := .of_lines (s.line_addTag e.tag)
  exact (tagged.trans (State.updLine_keepsLines (Line.addDemand_keeps (by rw [State.line_addTag]; exact h) e))).trans
    (State.askArbiter_keepsLines _ l)

theorem State.demand_keepsLines (s : State) (rq : Request) (i : Index) (op : Operation) : s.KeepsLines (s.demand rq i op) := by
  unfold State.demand
  dsimp only
  split
  · exact s.answer_keepsLines rq _ _
  · split
    · exact s.answer_keepsLines rq _ _
    · split
      · exact s.answer_keepsLines rq _ _
      · split
        · exact s.answer_keepsLines rq _ _
        · exact State.acceptDemand_keepsLines ‹_› _

theorem State.broadcast_keepsLines (s : State) (rq : Request) (l : LineId) (op : Operation) :
    s.KeepsLines (s.broadcast rq l op) := by
  unfold State.broadcast
  split
  · exact s.answer_keepsLines rq _ _
  · split
    · exact s.answer_keepsLines rq _ _
    · exact State.acceptDemand_keepsLines ‹_› _

theorem State.cancelEntry_keepsLines (s : State) (l : LineId) (e : DemandEntry) : s.KeepsLines (s.cancelEntry l e) :=
  (State.updLine_keepsLines (.of_less rfl rfl List.eraseP_sublist id fun h => ⟨h.collisions, h.streak, h.found⟩)).trans
    (State.replyEntry_queueOnly _ l .cancelled e).keepsLines

theorem State.cancel_keepsLines (s : State) (rq : Request) (target : Byte) : s.KeepsLines (s.cancel rq target) := by
  unfold State.cancel
  split
  · exact (s.cancelEntry_keepsLines .a _).trans (State.answer_keepsLines _ rq _ _)
  · exact (s.cancelEntry_keepsLines .b _).trans (State.answer_keepsLines _ rq _ _)
  · split <;> exact s.answer_keepsLines rq _ _

/-! ## Scan jobs -/

theorem Line.scan_keeps {x : Line} (hoff : x.state ≠ .off) (hfault : x.state ≠ .fault) {j : ScanJob}
    (hj : j.found.length < Config.foundListCapacity) : x.Keeps { x with scan := some j } := by
  refine ⟨fun g => ⟨g.record_present, g.record_absent, g.away_queue, fun ha => ?_, g.queue_bound⟩,
    fun g => ⟨g.collisions, g.streak, ?_⟩⟩
  · cases hs : x.state <;> simp_all [LineState.away]
  · rintro k ⟨⟩; exact hj

theorem State.scanStart_keepsLines (s : State) (rq : Request) (l : LineId) (first last timeout : Byte) :
    s.KeepsLines (s.scanStart rq l first last timeout) := by
  unfold State.scanStart
  split
  · exact s.answer_keepsLines rq _ _
  · split
    · exact s.answer_keepsLines rq _ _
    · rename_i hoff
      split
      · exact s.answer_keepsLines rq _ _
      · rename_i hfault
        split
        · exact s.answer_keepsLines rq _ _
        · have tagged : s.KeepsLines (s.addTag rq.tag) := .of_lines (s.line_addTag rq.tag)
          refine (tagged.trans (State.updLine_keepsLines ?_)).trans (State.askArbiter_keepsLines _ l)
          rw [State.line_addTag]
          exact Line.scan_keeps hoff hfault (by decide : 0 < Config.foundListCapacity)

theorem State.scanAbort_keepsLines (s : State) (rq : Request) (l : LineId) : s.KeepsLines (s.scanAbort rq l) := by
  unfold State.scanAbort
  split
  · exact s.answer_keepsLines rq _ _
  · rename_i j hj
    split
    · exact (s.endScan_keepsLines l _).trans (State.answer_keepsLines _ rq _ _)
    · refine (State.updLine_keepsLines (.of_less rfl rfl (.refl _) (fun h => ?_) fun h => ⟨h.collisions, h.streak, ?_⟩)).trans
        (State.answer_keepsLines _ rq _ _)
      · rw [hj] at h; cases h
      · rintro k ⟨⟩; exact h.found j hj

/-! ## The store and the host link -/

/-- A part of the state that is not a line. -/
theorem State.setStoreSlot_keepsLines (s : State) (id : SlotId) (x : StoreSlot) : s.KeepsLines (s.setStoreSlot id x) :=
  .of_lines (s.line_setStoreSlot id x)

theorem State.setSlot_keepsLines (s : State) (id : SlotId) (x : RequestSlot) : s.KeepsLines (s.setSlot id x) :=
  .of_lines (s.line_setSlot id x)

/-- An update of other fields than the lines. -/
theorem State.KeepsLines.of_fields {s t : State} (ha : t.lineA = s.lineA) (hb : t.lineB = s.lineB) : s.KeepsLines t :=
  .of_lines (State.line_congr ha hb)

theorem State.endSave_keepsLines (s : State) (tag : Byte) (generation : Word) (good : Bool) :
    s.KeepsLines (s.endSave tag generation good) := by
  unfold State.endSave
  extract_lets u v
  have first : s.KeepsLines u := by
    simp only [u]
    split
    · exact .of_fields rfl rfl
    · exact .refl s
  exact (first.trans (u.deferredReply_queueOnly tag _ _).keepsLines).trans (.of_fields (s := v) rfl rfl)

theorem State.startSave_keepsLines (s : State) (tag : Byte) : s.KeepsLines (s.startSave tag) := by
  unfold State.startSave
  extract_lets newest target job tagged u slot
  have started : s.KeepsLines u := .of_fields rfl rfl
  split
  · exact started.trans (State.endSave_keepsLines _ _ _ _)
  · exact (started.trans (State.setStoreSlot_keepsLines _ _ _)).trans (.of_fields rfl rfl)

theorem State.endErase_keepsLines (s : State) (tag : Byte) (status : Status) : s.KeepsLines (s.endErase tag status) :=
  (s.deferredReply_queueOnly tag _ _).keepsLines.trans (.of_fields rfl rfl)

theorem State.eraseNext_keepsLines (s : State) (tag : Byte) (slots : List SlotId) : s.KeepsLines (s.eraseNext tag slots) := by
  cases slots with
  | nil => exact s.endErase_keepsLines tag .ok
  | cons slot rest => exact (s.setStoreSlot_keepsLines slot _).trans (.of_fields rfl rfl)

theorem State.storeSave_keepsLines (s : State) (rq : Request) : s.KeepsLines (s.storeSave rq) := by
  unfold State.storeSave
  split
  · exact s.answer_keepsLines rq _ _
  · split
    · exact s.answer_keepsLines rq _ _
    · exact s.startSave_keepsLines rq.tag

theorem State.storeErase_keepsLines (s : State) (rq : Request) : s.KeepsLines (s.storeErase rq) := by
  unfold State.storeErase
  split
  · exact s.answer_keepsLines rq _ _
  · split
    · exact s.answer_keepsLines rq _ _
    · exact State.KeepsLines.trans (.of_lines (s.line_addTag rq.tag)) (State.eraseNext_keepsLines _ _ _)

theorem State.endWrite_keepsLines (s : State) (id : SlotId) (overLength : Bool) : s.KeepsLines (s.endWrite id overLength) := by
  unfold State.endWrite
  extract_lets u
  have ended : s.KeepsLines u := .of_fields rfl rfl
  refine ended.trans ?_
  split
  · split
    · exact u.setSlot_keepsLines id _
    · split
      · exact (u.setSlot_keepsLines id _).trans (.of_fields rfl rfl)
      · exact (u.setSlot_keepsLines id _).trans (State.rejectFrame_queueOnly _).keepsLines
  · exact .refl u

theorem State.endRead_keepsLines (s : State) (message : Option Message) (sent : Nat) : s.KeepsLines (s.endRead message sent) := by
  unfold State.endRead
  extract_lets u
  have ended : s.KeepsLines u := .of_fields rfl rfl
  refine ended.trans ?_
  split
  · split
    · exact State.KeepsLines.trans (t := { u with outbound := u.outbound.tail }) (.of_fields rfl rfl)
        (State.walk_queueOnly _).keepsLines
    · exact .refl u
  · exact .refl u

theorem State.endLink_keepsLines (s : State) : s.KeepsLines s.endLink := by
  unfold State.endLink
  split
  · exact s.endWrite_keepsLines _ _
  · exact s.endRead_keepsLines _ _
  · exact .refl s

theorem State.storeByte_keepsLines (s : State) (id : SlotId) (data : Byte) : s.KeepsLines (s.storeByte id data) := by
  unfold State.storeByte
  split
  · split
    · exact (s.setSlot_keepsLines id _).trans (.of_fields rfl rfl)
    · exact .of_fields rfl rfl
  · exact .of_fields rfl rfl

/-! ## The event rows -/

theorem execResponseTimerExpiry_keepsLines {l : LineId} {s t : State} (h : execResponseTimerExpiry l s = .next t) :
    s.KeepsLines t := by
  cases h
  refine s.awake_keepsLines ?_
  split
  · exact s.endAttempt_keepsLines l _ _
  · exact State.updLine_keepsLines (.of_same rfl rfl rfl rfl rfl rfl)
  · exact State.updLine_keepsLines (.of_same rfl rfl rfl rfl rfl rfl)
  · exact .refl s

theorem execFrameGapExpiry_keepsLines {l : LineId} {s t : State} (h : execFrameGapExpiry l s = .next t) : s.KeepsLines t := by
  cases h
  refine s.awake_keepsLines ?_
  split
  · split
    · exact State.breakCandidate_keepsLines
    · exact s.setOpenFrame_keepsLines l none
  · exact .refl s

theorem execEchoDeadlineExpiry_keepsLines {l : LineId} {s t : State} (h : execEchoDeadlineExpiry l s = .next t) :
    s.KeepsLines t := by
  cases h
  refine s.awake_keepsLines ?_
  split
  · exact s.echoFails_keepsLines l
  · exact .refl s

theorem execStuckSpaceExpiry_keepsLines {l : LineId} {s t : State} (h : execStuckSpaceExpiry l s = .next t) :
    s.KeepsLines t := by
  cases h
  refine s.awake_keepsLines ?_
  split
  · exact s.enterFault_keepsLines l _
  · exact .refl s

/-- A line that leaves FAULT or GUARD without a record may be IDLE (R56, R59, R64). -/
theorem Line.idle_keeps {x y : Line} (hs : y.state = .idle) (ht : x.InOrder → y.transaction = none)
    (hq : y.demandQueue = x.demandQueue) (hj : y.scan = x.scan) (hc : y.collisionRun = x.collisionRun)
    (hn : y.streak = x.streak) : x.Keeps y := by
  refine ⟨fun h => ⟨?_, fun _ => ht h, ?_, ?_, hq ▸ h.queue_bound⟩, fun h => ⟨hc ▸ h.collisions, hn ▸ h.streak, hj ▸ h.found⟩⟩ <;>
    rw [hs] <;> nofun

theorem execFaultRecovery_keepsLines {l : LineId} {s t : State} (h : execFaultRecovery l s = .next t) : s.KeepsLines t := by
  cases h
  refine s.awake_keepsLines ?_
  split
  · rename_i hx
    have idle := State.updLine_keepsLines (s := s) (l := l) (f := fun x => { x with state := .idle, reception := none })
      (Line.idle_keeps rfl (fun g => g.record_absent (by rw [hx.1]; rfl)) rfl rfl rfl rfl)
    exact (idle.trans (State.mark_queueOnly _ _).keepsLines).trans (State.askArbiter_keepsLines _ l)
  · exact .refl s

theorem execGuardEnd_keepsLines {l : LineId} {s t : State} (h : execGuardEnd l s = .next t) : s.KeepsLines t := by
  cases h
  refine s.awake_keepsLines ?_
  split
  · split
    · exact State.updLine_keepsLines (Line.startAttempt_keeps _ (Nat.le_refl _) id)
    · rename_i ht
      exact (State.updLine_keepsLines (Line.idle_keeps rfl (fun _ => ht) rfl rfl rfl rfl)).trans (State.askArbiter_keepsLines _ l)
  · exact .refl s

theorem execStopBitSent_keepsLines {l : LineId} {s t : State} (h : execStopBitSent l s = .next t) : s.KeepsLines t := by
  cases h
  refine s.awake_keepsLines ?_
  dsimp only
  split
  · exact (State.updLine_keepsLines (.of_same rfl rfl rfl rfl rfl rfl)).trans (State.sendingEnds_keepsLines _ l)
  · exact .refl s

theorem Line.pinChanges_keeps (x : Line) (mark : Bool) : x.Keeps (x.pinChanges mark) := by
  unfold Line.pinChanges
  split
  · exact .refl x
  · split
    · exact .of_same rfl rfl rfl rfl rfl rfl
    · split <;> exact .of_same rfl rfl rfl rfl rfl rfl

theorem execReceivePinChange_keepsLines {l : LineId} {mark : Bool} {s t : State}
    (h : execReceivePinChange l mark s = .next t) : s.KeepsLines t := by
  cases h
  split
  · exact State.updLine_keepsLines (Line.pinChanges_keeps _ mark)
  · exact State.updLine_keepsLines (.of_same rfl rfl rfl rfl rfl rfl)

theorem execFieldCharacterReceived_keepsLines {l : LineId} {data : Byte} {mark good : Bool} {s t : State}
    (h : execFieldCharacterReceived l data mark good s = .next t) : s.KeepsLines t := by
  cases h
  refine s.awake_keepsLines ?_
  split
  · exact .refl s
  · exact s.takeCharacter_keepsLines l data mark good

theorem execWriteTransactionStart_keepsLines {address : BitVec 7} {s t : State}
    (h : execWriteTransactionStart address s = .next t) : s.KeepsLines t := by
  cases h
  split
  · exact .of_fields rfl rfl
  · refine s.endLink_keepsLines.trans ?_
    dsimp only
    split
    · split
      · exact (State.setSlot_keepsLines _ _ _).trans (.of_fields rfl rfl)
      · exact .of_fields rfl rfl
    · exact .of_fields rfl rfl

theorem execReadTransactionStart_keepsLines {address : BitVec 7} {s t : State}
    (h : execReadTransactionStart address s = .next t) : s.KeepsLines t := by
  cases h
  split
  · exact .of_fields rfl rfl
  · refine s.endLink_keepsLines.trans ?_
    dsimp only
    split <;> exact .of_fields rfl rfl

theorem execWriteDataByte_keepsLines {data : Byte} {s t : State} (h : execWriteDataByte data s = .next t) : s.KeepsLines t := by
  cases h
  split
  · exact s.storeByte_keepsLines _ data
  · exact .of_fields rfl rfl

theorem execWriteTransactionEnd_keepsLines {s t : State} (h : execWriteTransactionEnd s = .next t) : s.KeepsLines t := by
  cases h
  refine s.awake_keepsLines ?_
  split
  · exact s.endWrite_keepsLines _ _
  · exact .refl s

theorem execReadTransactionEnd_keepsLines {s t : State} (h : execReadTransactionEnd s = .next t) : s.KeepsLines t := by
  cases h
  refine s.awake_keepsLines ?_
  split
  · exact s.endRead_keepsLines _ _
  · exact .refl s

theorem execReadByteClocked_keepsLines {s t : State} (h : execReadByteClocked s = .next t) : s.KeepsLines t := by
  cases h
  refine s.awake_keepsLines ?_
  split <;> exact .of_fields rfl rfl

theorem execStallTimerExpiry_keepsLines {s t : State} (h : execStallTimerExpiry s = .next t) : s.KeepsLines t := by
  cases h
  refine s.awake_keepsLines ?_
  have released : s.KeepsLines { s with link := .none, linkAck := false, linkByte := 0xFF } := .of_fields rfl rfl
  dsimp only
  split
  · exact (released.trans (State.setSlot_keepsLines _ _ _)).trans (State.rejectFrame_queueOnly _).keepsLines
  · exact released
  · exact .refl s

theorem execPollTimerExpiry_keepsLines {index : Nat} {s t : State} (h : execPollTimerExpiry index s = .next t) :
    s.KeepsLines t := by
  cases h
  refine s.awake_keepsLines (s.onNode_keepsLines index fun i n => ?_)
  split
  · exact s.timerExpires_keepsLines _ i .poll _
  · exact .refl s

theorem execRecoveryTimerExpiry_keepsLines {index : Nat} {s t : State} (h : execRecoveryTimerExpiry index s = .next t) :
    s.KeepsLines t := by
  cases h
  refine s.awake_keepsLines (s.onNode_keepsLines index fun i n => ?_)
  split
  · exact s.timerExpires_keepsLines _ i .recovery _
  · exact .refl s

theorem execDueTimeAdvance_keepsLines {index : Nat} {s t : State} (h : execDueTimeAdvance index s = .next t) :
    s.KeepsLines t := by
  cases h
  exact s.awake_keepsLines (s.onNode_keepsLines index fun i n => State.updLine_keepsLines (.of_same rfl rfl rfl rfl rfl rfl))

theorem execSnapshotAgeOut_keepsLines {index : Nat} {s t : State} (h : execSnapshotAgeOut index s = .next t) :
    s.KeepsLines t := by
  cases h
  refine s.awake_keepsLines (s.onNode_keepsLines index fun i n => ?_)
  split
  · split
    · split
      · exact .of_lines (s.line_setSnapshot i _)
      · exact .refl s
    · exact .refl s
  · exact .refl s

theorem execSaveWriteCompletion_keepsLines {phase : Nat} {s t : State} (h : execSaveWriteCompletion s phase = .next t) :
    s.KeepsLines t := by
  cases h
  refine s.awake_keepsLines (s.inPhase_keepsLines phase _ fun tag image target generation => ?_)
  exact (s.setStoreSlot_keepsLines target _).trans (.of_fields rfl rfl)

theorem execSaveVerifyReadBack_keepsLines {equal : Bool} {phase : Nat} {s t : State}
    (h : execSaveVerifyReadBack equal s phase = .next t) : s.KeepsLines t := by
  cases h
  refine s.awake_keepsLines (s.inPhase_keepsLines phase _ fun tag image target generation => ?_)
  split
  · exact .of_fields rfl rfl
  · exact s.endSave_keepsLines tag generation false

theorem execSaveMarkWriteCompletion_keepsLines {phase : Nat} {s t : State}
    (h : execSaveMarkWriteCompletion s phase = .next t) : s.KeepsLines t := by
  cases h
  refine s.awake_keepsLines (s.inPhase_keepsLines phase _ fun tag image target generation => ?_)
  exact (s.setStoreSlot_keepsLines target _).trans (State.endSave_keepsLines _ tag generation true)

theorem execEraseInvalidationCompletion_keepsLines {cleared : Bool} {phase : Nat} {s t : State}
    (h : execEraseInvalidationCompletion cleared s phase = .next t) : s.KeepsLines t := by
  cases h
  refine s.awake_keepsLines (s.inErase_keepsLines phase fun tag slot rest held => ?_)
  split
  · exact s.eraseNext_keepsLines tag rest
  · refine State.KeepsLines.trans ?_ (State.endErase_keepsLines _ tag _)
    exact (s.setStoreSlot_keepsLines slot _).trans (.of_fields rfl rfl)

/-! ## Every command -/

/-- The rows that begin or end a reset (R160, R161). -/
def resetRow : Instr → Bool
  | .resetRequest | .powerUp | .rstPinLow | .resetComplete _ _ => true
  | _ => false

theorem exec_keepsLines {c : Instr} {s t : State} (hc : resetRow c = false) (h : exec c s = .next t) : s.KeepsLines t := by
  cases c with
  | resetRequest | powerUp | rstPinLow | resetComplete => cases hc
  | status => cases h; exact s.take_keepsLines _ fun rq u => by split <;> exact u.answer_keepsLines rq _ _
  | lineSet =>
    cases h
    exact s.take_keepsLines _ fun rq u => by split; exacts [u.answer_keepsLines rq _ _, u.lineSet_keepsLines rq _ _]
  | lineEnable =>
    cases h
    exact s.take_keepsLines _ fun rq u => by split; exacts [u.answer_keepsLines rq _ _, u.lineEnable_keepsLines rq _]
  | lineDisable =>
    cases h
    exact s.take_keepsLines _ fun rq u => by split; exacts [u.answer_keepsLines rq _ _, u.lineDisable_keepsLines rq _]
  | lineInfo =>
    cases h
    exact s.take_keepsLines _ fun rq u => by split; exacts [u.answer_keepsLines rq _ _, u.lineInfo_keepsLines rq _ _]
  | nodeAdd =>
    cases h
    exact s.take_keepsLines _ fun rq u => by split; exacts [u.answer_keepsLines rq _ _, u.nodeAdd_keepsLines rq _ _]
  | nodeSet =>
    cases h
    exact s.take_keepsLines _ fun rq u => by split; exacts [u.answer_keepsLines rq _ _, u.nodeSet_keepsLines rq _ _]
  | nodeRemove =>
    cases h
    exact s.take_keepsLines _ fun rq u => by split; exacts [u.answer_keepsLines rq _ _, u.nodeRemove_keepsLines rq _]
  | nodeEnable =>
    cases h
    exact s.take_keepsLines _ fun rq u => by split; exacts [u.answer_keepsLines rq _ _, u.nodeEnable_keepsLines rq _]
  | nodeDisable =>
    cases h
    exact s.take_keepsLines _ fun rq u => by split; exacts [u.answer_keepsLines rq _ _, u.nodeDisable_keepsLines rq _]
  | nodeInfo =>
    cases h
    exact s.take_keepsLines _ fun rq u => by split; exacts [u.answer_keepsLines rq _ _, u.nodeInfo_keepsLines rq _ _]
  | readSnapshot =>
    cases h
    exact s.take_keepsLines _ fun rq u => by split; exacts [u.answer_keepsLines rq _ _, u.readSnapshot_keepsLines rq _]
  | demand =>
    cases h
    exact s.take_keepsLines _ fun rq u => by split; exacts [u.answer_keepsLines rq _ _, u.demand_keepsLines rq _ _]
  | broadcast =>
    cases h
    exact s.take_keepsLines _ fun rq u => by split; exacts [u.answer_keepsLines rq _ _, u.broadcast_keepsLines rq _ _]
  | cancel =>
    cases h
    exact s.take_keepsLines _ fun rq u => by split; exacts [u.answer_keepsLines rq _ _, u.cancel_keepsLines rq _]
  | scanStart =>
    cases h
    exact s.take_keepsLines _ fun rq u => by split; exacts [u.answer_keepsLines rq _ _, u.scanStart_keepsLines rq _ _ _ _]
  | scanAbort =>
    cases h
    exact s.take_keepsLines _ fun rq u => by split; exacts [u.answer_keepsLines rq _ _, u.scanAbort_keepsLines rq _]
  | storeSave =>
    cases h
    exact s.take_keepsLines _ fun rq u => by split; exacts [u.answer_keepsLines rq _ _, u.storeSave_keepsLines rq]
  | storeErase =>
    cases h
    exact s.take_keepsLines _ fun rq u => by split; exacts [u.answer_keepsLines rq _ _, u.storeErase_keepsLines rq]
  | unknownKind => cases h; exact s.take_keepsLines _ fun rq u => (u.queueReply_queueOnly _ _).keepsLines
  | writeTransactionStart => exact execWriteTransactionStart_keepsLines h
  | writeTransactionEnd => exact execWriteTransactionEnd_keepsLines h
  | readTransactionStart => exact execReadTransactionStart_keepsLines h
  | readTransactionEnd => exact execReadTransactionEnd_keepsLines h
  | stallTimerExpiry => exact execStallTimerExpiry_keepsLines h
  | writeDataByte => exact execWriteDataByte_keepsLines h
  | readByteClocked => exact execReadByteClocked_keepsLines h
  | pollTimerExpiry => exact execPollTimerExpiry_keepsLines h
  | recoveryTimerExpiry => exact execRecoveryTimerExpiry_keepsLines h
  | dueTimeAdvance => exact execDueTimeAdvance_keepsLines h
  | snapshotAgeOut => exact execSnapshotAgeOut_keepsLines h
  | partTimeTick => cases h; exact s.awake_keepsLines (.of_fields rfl rfl)
  | responseTimerExpiry => exact execResponseTimerExpiry_keepsLines h
  | frameGapExpiry => exact execFrameGapExpiry_keepsLines h
  | echoDeadlineExpiry => exact execEchoDeadlineExpiry_keepsLines h
  | stuckSpaceExpiry => exact execStuckSpaceExpiry_keepsLines h
  | faultRecovery => exact execFaultRecovery_keepsLines h
  | guardEnd => exact execGuardEnd_keepsLines h
  | stopBitSent => exact execStopBitSent_keepsLines h
  | receivePinChange => exact execReceivePinChange_keepsLines h
  | fieldCharacterReceived => exact execFieldCharacterReceived_keepsLines h
  | saveWriteCompletion => exact execSaveWriteCompletion_keepsLines h
  | saveVerifyReadBack => exact execSaveVerifyReadBack_keepsLines h
  | saveMarkWriteCompletion => exact execSaveMarkWriteCompletion_keepsLines h
  | eraseInvalidationCompletion => exact execEraseInvalidationCompletion_keepsLines h
  | saveWriteTimerExpiry | saveVerifyTimerExpiry =>
    cases h
    exact s.awake_keepsLines (s.inPhase_keepsLines _ _ fun tag _ _ generation => s.endSave_keepsLines tag generation false)
  | eraseTimerExpiry =>
    cases h
    exact s.awake_keepsLines (s.inErase_keepsLines _ fun tag _ _ _ => s.endErase_keepsLines tag _)

/-! ## Resets -/

/-- A reset in progress discards no work of a line yet, but its counts stay in range (R161). -/
theorem State.LinesInBounds.beginReset {s : State} (h : s.LinesInBounds) (cause : ResetCause) :
    (s.beginReset cause).LinesInBounds := by
  have line : ∀ x : Line, x.InBounds → x.underReset.InBounds := fun x g => ⟨g.collisions, g.streak, g.found⟩
  intro l
  cases l with
  | a => exact line _ (h .a)
  | b => exact line _ (h .b)

theorem Line.afterReset_inOrder (settings : LineSettings) (enabled pinMark : Bool) :
    (Line.afterReset settings enabled pinMark).InOrder := by
  cases enabled <;> exact ⟨nofun, fun _ => rfl, fun _ => rfl, fun _ => rfl, Nat.zero_le _⟩

theorem Line.afterReset_inBounds (settings : LineSettings) (enabled pinMark : Bool) :
    (Line.afterReset settings enabled pinMark).InBounds :=
  ⟨(by decide : 0 < Config.collisionLimit), Nat.zero_le _, fun _ h => nomatch h⟩

theorem State.makeDueIfNew_keepsLines (s : State) (i : Index) : s.KeepsLines (s.makeDueIfNew i) := by
  unfold State.makeDueIfNew
  split
  · split
    · exact s.makeDue_keepsLines _ i
    · exact .refl s
  · exact .refl s

theorem State.makeAllDue_keepsLines (is : List Index) (s : State) : s.KeepsLines (is.foldl State.makeDueIfNew s) := by
  induction is generalizing s with
  | nil => exact .refl s
  | cons i is ih => exact (s.makeDueIfNew_keepsLines i).trans (ih _)

/-- The part comes out of reset with both lines in order and their counts in range (R143, R161). -/
theorem State.comeOut_line (s : State) (cause : ResetCause) (strap : BitVec 2) (l : LineId) :
    ((s.comeOut cause strap).line l).InOrder ∧ ((s.comeOut cause strap).line l).InBounds := by
  have keeps : (s.loaded cause strap).KeepsLines (s.comeOut cause strap) :=
    ((State.makeAllDue_keepsLines _ _).trans (State.askArbiter_keepsLines _ .a)).trans (State.askArbiter_keepsLines _ .b)
  obtain ⟨settings, enabled, pinMark, e⟩ := s.loaded_line cause strap l
  have kept := keeps l
  rw [e] at kept
  exact ⟨kept.order (Line.afterReset_inOrder settings enabled pinMark), kept.bounds (Line.afterReset_inBounds settings enabled pinMark)⟩

/-- A row that takes a request leaves the state alone or is its owner's function on an accepted request. -/
theorem State.take_elim {p : State → Prop} {s : State} (k : Option RequestKind) {owner : Request → State → State} (hs : p s)
    (h : ∀ id rq, p (owner rq (s.accept id rq))) : p (s.take k owner) := by
  obtain e | ⟨id, rq, -, e⟩ := s.take_cases k owner <;> rw [e]
  · exact hs
  · exact h id rq

/-- What a row of a reset does from `s`: nothing to the lines, the begin of a reset, or the end of one. -/
def State.ResetRowTo (s t : State) : Prop :=
  s.KeepsLines t ∧ t.resetting = s.resetting ∨ (∃ u cause, s.KeepsLines u ∧ t = u.beginReset cause) ∨
    ∃ cause strap, t = s.comeOut cause strap

theorem State.ResetRowTo.refl (s : State) : s.ResetRowTo s := .inl ⟨.refl s, rfl⟩

theorem State.ResetRowTo.beginReset {s u : State} (h : s.KeepsLines u) (cause : ResetCause) : s.ResetRowTo (u.beginReset cause) :=
  .inr (.inl ⟨u, cause, h, rfl⟩)

theorem exec_resetRow {c : Instr} {s t : State} (hc : resetRow c = true) (h : exec c s = .next t) : s.ResetRowTo t := by
  cases c with
  | powerUp => cases h; exact .beginReset (.refl s) _
  | rstPinLow =>
    cases h
    split
    · exact .refl s
    · exact .beginReset (.refl s) _
  | resetComplete a b =>
    cases h
    split
    · exact .inr (.inr ⟨_, _, rfl⟩)
    · exact .refl s
  | resetRequest =>
    cases h
    refine State.take_elim _ (.refl s) fun id rq => ?_
    have accepted := s.accept_keepsLines id rq
    split
    · exact .inl ⟨accepted.trans (State.answer_keepsLines _ rq _ _),
        (State.answer_queueOnly _ rq _ _).resetting.trans (s.accept_resetting id rq)⟩
    · exact .beginReset accepted _
  | _ => cases hc

theorem exec_linesInOrder {c : Instr} {s t : State} (hs : s.LinesInOrder) (h : exec c s = .next t) : t.LinesInOrder := by
  intro ht l
  cases hc : resetRow c with
  | false =>
    have awake : s.resetting = none := by
      by_contra hr
      obtain ⟨cause, hr⟩ := Option.ne_none_iff_exists'.mp hr
      exact exec_resetting hr (fun a b e => by rw [e] at hc; cases hc) h ht
    exact (exec_keepsLines hc h l).order (hs awake l)
  | true =>
    obtain ⟨kept, same⟩ | ⟨u, cause, -, e⟩ | ⟨cause, strap, e⟩ := exec_resetRow hc h
    · exact (kept l).order (hs (same ▸ ht) l)
    · rw [e] at ht
      exact absurd ht nofun
    · rw [e]
      exact (s.comeOut_line cause strap l).1

theorem exec_linesInBounds {c : Instr} {s t : State} (hs : s.LinesInBounds) (h : exec c s = .next t) : t.LinesInBounds := by
  cases hc : resetRow c with
  | false => exact fun l => (exec_keepsLines hc h l).bounds (hs l)
  | true =>
    obtain ⟨kept, -⟩ | ⟨u, cause, kept, e⟩ | ⟨cause, strap, e⟩ := exec_resetRow hc h
    · exact fun l => (kept l).bounds (hs l)
    · rw [e]
      exact State.LinesInBounds.beginReset (fun l => (kept l).bounds (hs l)) cause
    · rw [e]
      exact fun l => (s.comeOut_line cause strap l).2

/-- Settles O55: a command keeps each line in order and its counts in range; a reset begins with the lines as they are, and ends with
lines that have no work. -/
theorem linesStayInOrder : Obligations.LinesStayInOrder := by
  refine ⟨fun s t hs h => ?_, fun s t hs h => ?_⟩
  · obtain rfl | ⟨c, rest, -, h⟩ := step_cases h
    · exact hs
    · exact exec_linesInOrder (s := { s with pending := rest }) hs h
  · obtain rfl | ⟨c, rest, -, h⟩ := step_cases h
    · exact hs
    · exact exec_linesInBounds (s := { s with pending := rest }) hs h

end Sys2Proof.Machine
/-! SUPPORT. The line requests that end no work: LINE SET, LINE ENABLE and LINE INFO (R66, R67, R70). -/

namespace Sys2Proof.Machine

theorem exec_lineSet_ready {s : State} {id : SlotId} {rq : Request} {l : LineId} {settings : LineSettings}
    (h : s.ready (some .lineSet) id rq) (hb : lineSetBody rq.body = some (l, settings)) :
    exec .lineSet s = .next ((s.accept id rq).lineSet rq l settings) := by
  show Host.Outcome.next (s.take _ _) = _
  rw [State.take_of_ready h, hb]

theorem exec_lineEnable_ready {s : State} {id : SlotId} {rq : Request} {l : LineId} (h : s.ready (some .lineEnable) id rq)
    (hb : lineBody rq.body = some l) : exec .lineEnable s = .next ((s.accept id rq).lineEnable rq l) := by
  show Host.Outcome.next (s.take _ _) = _
  rw [State.take_of_ready h, hb]

theorem exec_lineInfo_ready {s : State} {id : SlotId} {rq : Request} {l : LineId} {clear : Bool}
    (h : s.ready (some .lineInfo) id rq) (hb : lineInfoBody rq.body = some (l, clear)) :
    exec .lineInfo s = .next ((s.accept id rq).lineInfo rq l clear) := by
  show Host.Outcome.next (s.take _ _) = _
  rw [State.take_of_ready h, hb]

/-! ## LINE SET -/

theorem State.lineSet_of_on {s : State} {l : LineId} (h : (s.line l).state ≠ .off) (rq : Request) (settings : LineSettings) :
    s.lineSet rq l settings = s.answer rq .lineActive [lineCode l] := if_neg h

theorem State.lineSet_of_off_same {s : State} {l : LineId} (h : (s.line l).state = .off) (rq : Request) :
    s.lineSet rq l (s.line l).settings =
      (s.setLine l { s.line l with settings := (s.line l).settings }).answer rq .ok [lineCode l] := by
  rw [State.lineSet]
  dsimp only
  rw [if_pos h, if_pos rfl]

theorem State.lineSet_of_off_new {s : State} {l : LineId} (h : (s.line l).state = .off) (rq : Request) {settings : LineSettings}
    (hs : settings ≠ (s.line l).settings) : s.lineSet rq l settings =
      (s.setLine l { s.line l with settings := settings }).reportChange.answer rq .ok [lineCode l] := by
  rw [State.lineSet]
  dsimp only
  rw [if_pos h, if_neg hs]

/-- Settles O9: the settings given are those of the line, or they are a change to report. -/
theorem lineSetOnlyWhileOff : Obligations.LineSetOnlyWhileOff := by
  intro s id rq l settings hready hbody
  have hkind := hready.2.2.1
  have hlen : 6 + [lineCode l].length = rq.reservation := (reservation_of_kind hkind).symm
  have line_a := State.line_accept s id rq l
  have free (y : Line) : ((s.accept id rq).setLine l y).reserved - rq.reservation = s.reserved := by simp
  rw [exec_lineSet_ready hready hbody]
  refine ⟨fun hoff => ?_, fun hon => ?_⟩
  · rw [← line_a] at hoff
    by_cases hs : settings = (s.line l).settings
    · subst hs
      rw [← line_a, State.lineSet_of_off_same hoff, State.answer_exact _ hkind (free _) _ hlen,
        decide_eq_false (not_not.mpr rfl), Bool.or_false, Bool.false_and, Bool.or_false, line_a]
      cases id <;> cases l <;> rfl
    · rw [State.lineSet_of_off_new hoff rq (by rwa [line_a]), State.reportChange_answer_exact _ hkind (free _) _ hlen,
        decide_eq_true hs, Bool.or_true, Bool.true_and, line_a]
      cases id <;> cases l <;> rfl
  · rw [State.lineSet_of_on (line_a ▸ hon), s.accept_answer_of_kind id hkind _ hlen]
    rfl

/-! ## LINE ENABLE -/

theorem State.lineEnable_of_on {s : State} {l : LineId} (h : (s.line l).state ≠ .off) (rq : Request) :
    s.lineEnable rq l = s.answer rq .ok [lineCode l] := if_neg h

theorem State.lineEnable_of_off {s : State} {l : LineId} (h : (s.line l).state = .off) (rq : Request) :
    s.lineEnable rq l =
      ((((s.setLine l { s.line l with state := .idle, enabled := true, collisionRun := 0 }).mark (.lineState l)).reportChange).answer
        rq .ok [lineCode l]).askArbiter l := if_pos h

/-- Settles O10: `u` is the state after the mark, which holds no reservation but the request's own. -/
theorem lineEnableFromOff : Obligations.LineEnableFromOff := by
  intro s id rq l hready hbody reply
  have hkind := hready.2.2.1
  have hlen : 6 + [lineCode l].length = rq.reservation := (reservation_of_kind hkind).symm
  have line_a := State.line_accept s id rq l
  rw [exec_lineEnable_ready hready hbody]
  refine ⟨fun hoff => ?_, fun hon => ?_⟩
  · let a := (s.accept id rq).setLine l { s.line l with state := .idle, enabled := true, collisionRun := 0 }
    let u := a.mark (.lineState l)
    have core : QueueOnly a u := a.mark_queueOnly _
    have saving : u.saving = s.saving := by rw [core.saving]; cases id <;> cases l <;> rfl
    have captured : u.changedAfterCapture = s.changedAfterCapture := by rw [core.changedAfterCapture]; simp [a]
    have reserved : u.reserved - rq.reservation = s.reserved := by rw [(a.mark_posts _).2.2.1]; simp [a]
    refine ⟨u, rfl, ?_⟩
    rw [State.lineEnable_of_off (line_a ▸ hoff), line_a, State.reportChange_answer_exact u hkind reserved _ hlen, captured, saving]
    rfl
  · rw [State.lineEnable_of_on (line_a ▸ hon), s.accept_answer_of_kind id hkind _ hlen]
    rfl

/-! ## LINE INFO -/

theorem State.lineInfo_eq (s : State) (rq : Request) (l : LineId) (clear : Bool) : s.lineInfo rq l clear =
    (s.setLine l { s.line l with counters := if clear then {} else (s.line l).counters }).answer rq .ok
      (lineInfoData l (s.line l)) := by
  cases clear with
  | true => rfl
  | false => exact congrArg (State.answer · rq .ok _) (s.setLine_line l).symm

/-- Settles O12: LINE INFO answers the 21 bytes of its report, which fill its reservation of 27. -/
theorem lineInfoReports : Obligations.LineInfoReports := by
  intro s id rq l clear hready hbody x
  have hkind := hready.2.2.1
  have hlen : 6 + (lineInfoData l x).length = rq.reservation := (reservation_of_kind hkind).symm
  rw [exec_lineInfo_ready hready hbody, State.lineInfo_eq, State.line_accept,
    State.answer_exact _ hkind (r := s.reserved) (by simp) _ hlen]
  cases id <;> cases l <;> rfl

end Sys2Proof.Machine
/-! SUPPORT. The timed events of a line and its receive pin: the echo deadline, the end of FAULT and of the guard, and a change of the
pin (R50, R52, R58, R64). -/

namespace Sys2Proof.Machine

/-! ## A failed echo check -/

/-- The line with one more collision counted (R42, R63). -/
def Line.collided (x : Line) : Line :=
  { x with
    collisionRun := x.collisionRun + 1
    counters := { x.counters with collisions := countUp x.counters.collisions } }

/-- A failed echo check counts the collision and ends the attempt, or, for the fourth in a row, takes the line to FAULT. -/
theorem State.echoFails_eq (s : State) (l : LineId) : s.echoFails l =
    if 3 ≤ (s.line l).collisionRun then (s.setLine l (s.line l).collided).enterFault l .collisions
    else (s.setLine l (s.line l).collided).endAttempt l .collision .guardTime := by
  have fourth : Config.collisionLimit ≤ ((s.setLine l (s.line l).collided).line l).collisionRun ↔
      3 ≤ (s.line l).collisionRun := by
    rw [State.line_setLine_same]
    exact Nat.succ_le_succ_iff
  simp only [← fourth]
  rfl

theorem State.setLine_echoFails (s : State) (l : LineId) (y : Line) : (s.setLine l y).echoFails l =
    if 3 ≤ y.collisionRun then (s.setLine l y.collided).enterFault l .collisions
    else (s.setLine l y.collided).endAttempt l .collision .guardTime := by
  rw [State.echoFails_eq, State.line_setLine_same, State.setLine_setLine]

theorem exec_echoDeadlineExpiry_of_awake {s : State} (h : s.resetting = none) (l : LineId) :
    exec (.echoDeadlineExpiry l) s =
      .next (if (s.line l).state = .sending ∧ (s.line l).echoed < (s.line l).sent then s.echoFails l else s) := by
  show execEchoDeadlineExpiry l s = _
  rw [execEchoDeadlineExpiry, State.awake_of_none h]

/-- Settles O36: the deadline fails the echo check of the character that is due. -/
theorem missingEchoIsCollision : Obligations.MissingEchoIsCollision := by
  intro s l hs x counted
  rw [exec_echoDeadlineExpiry_of_awake hs]
  refine ⟨fun hsending hdue => ?_, fun hnone => ?_⟩
  · rw [if_pos ⟨hsending, hdue⟩, State.echoFails_eq]
    exact ⟨fun few => congrArg _ (if_neg (Nat.not_le.mpr few)), fun fourth => congrArg _ (if_pos fourth)⟩
  · rw [if_neg (not_and_or.mpr (hnone.imp_right Nat.not_lt.mpr))]

/-! ## The end of FAULT -/

theorem exec_faultRecovery_of_awake {s : State} (h : s.resetting = none) (l : LineId) :
    exec (.faultRecovery l) s = .next (if (s.line l).state = .fault ∧ (s.line l).pinMark = true then
      ((s.setLine l { s.line l with state := .idle, reception := none }).mark (.lineState l)).askArbiter l
    else s) := by
  show execFaultRecovery l s = _
  rw [execFaultRecovery, State.awake_of_none h]
  rfl

/-- Settles O38: the row asks for FAULT and a pin at mark. -/
theorem faultRecoveryEntersIdle : Obligations.FaultRecoveryEntersIdle := by
  intro s l hs x
  rw [exec_faultRecovery_of_awake hs]
  refine ⟨fun hfault hmark => by rw [if_pos ⟨hfault, hmark⟩], fun hnone => ?_⟩
  rw [if_neg (not_and_or.mpr (hnone.imp_right ne_true_of_eq_false))]

/-! ## The end of the guard -/

/-- Every attempt after the first sends its request with the repeat flag (R28). -/
theorem Transaction.frame_of_repeat {t : Transaction} (h : 1 < t.made) : t.frame =
    withCrc ([t.target, t.operation.fieldKind + 0x40, t.sequence, byteOf t.operation.payload.length] ++ t.operation.payload) := by
  rw [Transaction.frame, if_neg (Nat.not_le.mpr h)]
  rfl

theorem exec_guardEnd_retry {s : State} {l : LineId} {t : Transaction} (hs : s.resetting = none)
    (hx : (s.line l).state = .guard ∧ (s.line l).reception = none ∧ (s.line l).pinMark = true)
    (ht : (s.line l).transaction = some t) :
    exec (.guardEnd l) s = .next (s.setLine l ((s.line l).startAttempt { t with made := t.made + 1 })) := by
  show execGuardEnd l s = _
  rw [execGuardEnd, State.awake_of_none hs, if_pos hx, ht]
  rfl

theorem exec_guardEnd_idle {s : State} {l : LineId} (hs : s.resetting = none)
    (hx : (s.line l).state = .guard ∧ (s.line l).reception = none ∧ (s.line l).pinMark = true)
    (ht : (s.line l).transaction = none) :
    exec (.guardEnd l) s = .next ((s.setLine l { s.line l with state := .idle, guardKind := none }).askArbiter l) := by
  show execGuardEnd l s = _
  rw [execGuardEnd, State.awake_of_none hs, if_pos hx, ht]
  rfl

theorem exec_guardEnd_held {s : State} {l : LineId} (hs : s.resetting = none)
    (hx : ¬((s.line l).state = .guard ∧ (s.line l).reception = none ∧ (s.line l).pinMark = true)) :
    exec (.guardEnd l) s = .next s := by
  show execGuardEnd l s = _
  rw [execGuardEnd, State.awake_of_none hs, if_neg hx]

/-- Settles O39: a record that waits in the guard starts its next attempt, which is never the first. -/
theorem guardEndRetriesOrIdles : Obligations.GuardEndRetriesOrIdles := by
  intro s l hs x
  refine ⟨fun hguard hfree hmark => ⟨fun t ht hmade => ?_, exec_guardEnd_idle hs ⟨hguard, hfree, hmark⟩⟩, fun hheld => ?_⟩
  · rw [exec_guardEnd_retry hs ⟨hguard, hfree, hmark⟩ ht, Line.startAttempt,
      Transaction.frame_of_repeat (t := { t with made := t.made + 1 }) (Nat.lt_succ_of_le hmade)]
  · refine exec_guardEnd_held hs ?_
    rintro ⟨hguard, hfree, hmark⟩
    rcases hheld with h | h | h
    · exact h hguard
    · exact h hfree
    · exact absurd (hmark.symm.trans h) nofun

/-! ## The receive pin -/

theorem exec_receivePinChange_of_awake {s : State} (h : s.resetting = none) (l : LineId) (mark : Bool) :
    exec (.receivePinChange l mark) s = .next (s.setLine l ((s.line l).pinChanges mark)) := by
  show execReceivePinChange l mark s = _
  rw [execReceivePinChange, h]
  rfl

theorem Line.pinChanges_same {x : Line} {mark : Bool} (h : x.pinMark = mark) : x.pinChanges mark = x := if_pos h.symm

/-- A fall of the pin begins a character only while the receiver is on and takes none (R50). -/
theorem Line.pinChanges_fall_untaken {x : Line} (h : x.pinMark = true) (hx : x.state = .off ∨ x.reception ≠ none) :
    x.pinChanges false = { x with pinMark := false } := by
  rw [Line.pinChanges, if_neg (by rw [h]; nofun), if_neg nofun, if_pos hx]

theorem Line.pinChanges_fall_begins {x : Line} (h : x.pinMark = true) (ho : x.state ≠ .off) (hr : x.reception = none) :
    x.pinChanges false =
      { x with pinMark := false, reception := some (if x.state = .sending then .echo x.sent else .plain) } := by
  rw [Line.pinChanges, if_neg (by rw [h]; nofun), if_neg nofun, if_neg (not_or.mpr ⟨ho, not_not.mpr hr⟩)]

theorem Line.pinChanges_rise {x : Line} (h : x.pinMark = false) : x.pinChanges true =
    { x with pinMark := true, reception := if x.reception = some .held then none else x.reception } := by
  rw [Line.pinChanges, if_neg (by rw [h]; nofun), if_pos rfl]

/-- Settles O43, by the level of the pin and what is being received. -/
theorem pinChangeBeginsCharacter : Obligations.PinChangeBeginsCharacter := by
  intro s l hs x pin
  have changes {mark : Bool} {y : Line} (h : x.pinChanges mark = y) : pin mark y := by
    rw [← h]
    exact exec_receivePinChange_of_awake hs l mark
  refine ⟨fun high => ⟨changes (Line.pinChanges_same high), fun hx => changes (Line.pinChanges_fall_untaken high hx), ?_, ?_⟩,
    fun low => ⟨changes (Line.pinChanges_same low), fun held => changes ?_, fun free => changes ?_⟩⟩
  · intro free sending
    exact changes (by rw [Line.pinChanges_fall_begins high (by rw [sending]; nofun) free, if_pos sending])
  · intro free on quiet
    exact changes (by rw [Line.pinChanges_fall_begins high on free, if_neg quiet])
  · rw [Line.pinChanges_rise low, if_pos held]
  · rw [Line.pinChanges_rise low, if_neg free]

end Sys2Proof.Machine
/-! SUPPORT. Characters on the receive pin outside an attempt's response (R32, R54, R55), and the characters and echoes of SENDING
(R30, R31, R49, R52, R57). -/

namespace Sys2Proof.Machine

/-! ## A character outside an attempt -/

/-- What stays open of a frame that has taken a character: nothing once it is complete or broken (R54). -/
def Assembly.stillOpen : Assembly → Option (List Byte)
  | .growing now => some now
  | .complete _ | .broken => none

theorem stillOpen_of_short {bytes : List Byte} {b : Byte} (h : (bytes ++ [b])[3]? = none) :
    (assemble bytes b).stillOpen = some (bytes ++ [b]) := by
  rw [assemble_short h]
  rfl

theorem stillOpen_of_len {bytes : List Byte} {b len : Byte} (h : (bytes ++ [b])[3]? = some len) : (assemble bytes b).stillOpen =
    if 48 < len.toNat ∨ bytes.length + 1 = 6 + len.toNat then none else some (bytes ++ [b]) := by
  rw [assemble_of_len h, List.length_append, List.length_singleton]
  by_cases long : 48 < len.toNat
  · rw [if_pos long, if_pos (.inl long)]
    rfl
  · by_cases full : bytes.length + 1 = 6 + len.toNat
    · rw [if_neg long, if_pos full, if_pos (.inr full)]
      rfl
    · rw [if_neg long, if_neg full, if_neg (not_or.mpr ⟨long, full⟩)]
      rfl

section
variable (s : State) (l : LineId) (y : Line) (data : Byte)

theorem State.takeOutside_mark : (s.setLine l y).takeOutside l data true true = s.setLine l
    { y with counters := { y.counters with stray := countUp y.counters.stray }, openFrame := some [data] } := by
  simp [State.takeOutside, State.openStray_eq]

variable {y} in
theorem State.takeOutside_noise (h : y.openFrame = none) : (s.setLine l y).takeOutside l data false true = s.setLine l
    { y with counters := { y.counters with noise := countUp y.counters.noise } } := by
  simp [State.takeOutside, h, LineCounters.addNoise]

variable {y} in
theorem State.takeOutside_next {bytes : List Byte} (h : y.openFrame = some bytes) :
    (s.setLine l y).takeOutside l data false true = s.setLine l { y with openFrame := (assemble bytes data).stillOpen } := by
  simp only [State.takeOutside, State.line_setLine_same, h]
  cases assemble bytes data with
  | growing now => exact s.setLine_setOpenFrame l y _
  | complete now => exact s.setLine_setOpenFrame l y _
  | broken => exact s.setLine_setOpenFrame l y _

theorem State.takeOutside_framing (mark : Bool) : (s.setLine l y).takeOutside l data mark false = s.setLine l
    { y with counters := { y.counters with framing := countUp y.counters.framing }, openFrame := none } := by
  simp [State.takeOutside, LineCounters.addFraming]

end

/-! ## Which characters are taken, and by what -/

section
variable {s : State} {l : LineId} (hs : s.resetting = none)
include hs

theorem exec_fieldCharacterReceived_untaken (h : (s.line l).state = .off ∨ (s.line l).reception = some .held)
    (data : Byte) (mark good : Bool) : exec (.fieldCharacterReceived l data mark good) s = .next s := by
  show execFieldCharacterReceived l data mark good s = _
  rw [execFieldCharacterReceived, State.awake_of_none hs, if_pos h]

theorem exec_fieldCharacterReceived_fault (h : (s.line l).state = .fault) (hr : (s.line l).reception ≠ some .held)
    (data : Byte) (mark good : Bool) : exec (.fieldCharacterReceived l data mark good) s =
      .next (s.setLine l ((s.line l).finishReception good)) := by
  rw [exec_fieldCharacterReceived_of_taking hs (by rw [h]; nofun) hr]
  simp only [State.takeCharacter, h]
  rfl

/-- An echo that ends after its attempt is nobody's character (R52). -/
theorem exec_fieldCharacterReceived_lateEcho {k : Nat} (hr : (s.line l).reception = some (.echo k))
    (h : (s.line l).state = .idle ∨ (s.line l).state = .guard ∨ (s.line l).state = .waiting) (data : Byte) (mark good : Bool) :
    exec (.fieldCharacterReceived l data mark good) s = .next (s.setLine l ((s.line l).finishReception good)) := by
  rw [exec_fieldCharacterReceived_of_taking hs (by rcases h with h | h | h <;> rw [h] <;> nofun) (by rw [hr]; nofun)]
  rcases h with h | h | h <;> simp only [State.takeCharacter, h, hr] <;> rfl

theorem exec_fieldCharacterReceived_quiet (hr : (s.line l).reception = none ∨ (s.line l).reception = some .plain)
    (h : (s.line l).state = .idle ∨ (s.line l).state = .guard) (data : Byte) (mark good : Bool) :
    exec (.fieldCharacterReceived l data mark good) s =
      .next ((s.setLine l ((s.line l).finishReception good)).takeOutside l data mark good) := by
  rw [exec_fieldCharacterReceived_of_taking hs (by rcases h with h | h <;> rw [h] <;> nofun)
    (by rcases hr with hr | hr <;> rw [hr] <;> nofun)]
  rcases h with h | h <;> rcases hr with hr | hr <;> simp only [State.takeCharacter, h, hr] <;> rfl

/-- In IDLE and GUARD, and in WAITING unless it opens the candidate response, a character is outside the attempt (R32, R33). -/
theorem exec_fieldCharacterReceived_outside (hr : (s.line l).reception = none ∨ (s.line l).reception = some .plain)
    {data : Byte} {mark good : Bool} (h : (s.line l).state = .idle ∨ (s.line l).state = .guard ∨
      ∃ t, (s.line l).state = .waiting ∧ (s.line l).transaction = some t ∧ ¬(good = true ∧ mark = true ∧ data = t.target)) :
    exec (.fieldCharacterReceived l data mark good) s =
      .next ((s.setLine l ((s.line l).finishReception good)).takeOutside l data mark good) := by
  rcases h with h | h | ⟨t, h, ht, other⟩
  · exact exec_fieldCharacterReceived_quiet hs hr (.inl h) data mark good
  · exact exec_fieldCharacterReceived_quiet hs hr (.inr h) data mark good
  · rw [exec_fieldCharacterReceived_waiting hs ht hr h, State.takeWaiting, if_neg other]

end

/-- Settles O40: which rule takes the character, and what that rule makes of the line whose reception has ended. -/
theorem charactersOutsideAttempt : Obligations.CharactersOutsideAttempt := by
  intro s l data mark hs x ended broken takes
  have finish_good : (s.line l).finishReception true = ended := Line.finishReception_good x
  have finish_bad : (s.line l).finishReception false = broken := Line.finishReception_bad x
  refine ⟨fun hr hx => ?good, fun hr hx => ?framing, fun k hk hx => ?late, fun hf hr => ?fault,
    fun good => (exec_fieldCharacterReceived_untaken hs · data mark good)⟩
  case good =>
    have outside : exec (.fieldCharacterReceived l data mark true) s =
        .next ((s.setLine l ended).takeOutside l data mark true) := by
      rw [exec_fieldCharacterReceived_outside hs hr
        (hx.imp_right (Or.imp_right fun ⟨t, hw, ht, other⟩ => ⟨t, hw, ht, fun h => other h.2⟩)), finish_good]
    refine ⟨fun marked => ?_, fun plain closed => ?_, fun plain bytes opened => ?_⟩
    · subst marked
      exact outside.trans (congrArg _ (s.takeOutside_mark l ended data))
    · subst plain
      exact outside.trans (congrArg _ (s.takeOutside_noise l (y := ended) data closed))
    · subst plain
      refine (outside.trans (congrArg _ (s.takeOutside_next l (y := ended) data opened))).trans ?_
      split
      · rw [stillOpen_of_len ‹_›]
      · rw [stillOpen_of_short ‹_›]
  case framing =>
    show exec _ s = _
    rw [exec_fieldCharacterReceived_outside (good := false) hs hr
      (hx.imp_right (Or.imp_right fun ⟨t, hw, ht⟩ => ⟨t, hw, ht, fun h => Bool.false_ne_true h.1⟩)), finish_bad, State.takeOutside_framing]
  case late =>
    have late := exec_fieldCharacterReceived_lateEcho hs hk hx data mark
    exact ⟨finish_good ▸ late true, finish_bad ▸ late false⟩
  case fault =>
    have ends := exec_fieldCharacterReceived_fault hs hf hr data mark
    exact ⟨finish_good ▸ ends true, finish_bad ▸ ends false⟩

end Sys2Proof.Machine
/-! SUPPORT. SENDING: the bits of a character, its stop bit, its echo, and the end after the last (R30, R31, R49, R52, R57). -/

namespace Sys2Proof.Machine

/-! ## The bits of a character -/

theorem characterBits_eq (data : Byte) (mark : Bool) : characterBits data mark =
    [false, data.getLsbD 0, data.getLsbD 1, data.getLsbD 2, data.getLsbD 3, data.getLsbD 4, data.getLsbD 5, data.getLsbD 6,
      data.getLsbD 7, mark, true] := rfl

theorem ofBoolListLE_getLsbD (data : Byte) :
    BitVec.ofBoolListLE [data.getLsbD 0, data.getLsbD 1, data.getLsbD 2, data.getLsbD 3, data.getLsbD 4, data.getLsbD 5,
      data.getLsbD 6, data.getLsbD 7] = data := by
  refine BitVec.eq_of_getLsbD_eq fun i hi => ?_
  rw [BitVec.getLsbD_ofBoolListLE]
  match i, hi with
  | 0, _ | 1, _ | 2, _ | 3, _ | 4, _ | 5, _ | 6, _ | 7, _ => rfl

theorem sampledCharacter_characterBits (data : Byte) (mark : Bool) :
    sampledCharacter (characterBits data mark) = some (data, mark, true) :=
  congrArg (fun b => some (b, mark, true)) (ofBoolListLE_getLsbD data)

/-! ## The end of SENDING -/

theorem TransactionKind.awaitsResponse_eq_false_iff (k : TransactionKind) :
    k.awaitsResponse = false ↔ ∃ tag reserved, k = .broadcast tag reserved := by
  cases k with
  | broadcast tag reserved => exact iff_of_true rfl ⟨tag, reserved, rfl⟩
  | poll | demand | recoveryProbe | scanProbe => exact iff_of_false nofun nofun

theorem TransactionKind.awaitsResponse_eq_true_iff (k : TransactionKind) :
    k.awaitsResponse = true ↔ ¬∃ tag reserved, k = .broadcast tag reserved := by
  rw [← k.awaitsResponse_eq_false_iff, Bool.not_eq_false]

section
variable (s : State) (l : LineId) {y : Line}

theorem State.sendingEnds_unfinished (h : ¬(y.sent = y.frame.length ∧ y.echoed = y.frame.length)) :
    (s.setLine l y).sendingEnds l = s.setLine l y := by
  simp only [State.sendingEnds, State.line_setLine_same]
  exact if_neg h

variable {t : Transaction} (h : y.sent = y.frame.length ∧ y.echoed = y.frame.length) (ht : y.transaction = some t)
include h ht

theorem State.sendingEnds_broadcast (hk : t.kind.awaitsResponse = false) :
    (s.setLine l y).sendingEnds l = (s.setLine l y).endAttempt l (.ok []) .settle := by
  simp [State.sendingEnds, h, ht, hk]

theorem State.sendingEnds_timeout (hk : t.kind.awaitsResponse = true) (he : y.elapsed = true) :
    (s.setLine l y).sendingEnds l = (s.setLine l y).endAttempt l .timeout .guardTime := by
  simp [State.sendingEnds, h, ht, hk, he]

theorem State.sendingEnds_waiting (hk : t.kind.awaitsResponse = true) (he : y.elapsed = false) :
    (s.setLine l y).sendingEnds l =
      s.setLine l { y with state := .waiting, frame := [], sent := 0, echoed := 0, timer := .running } := by
  simp [State.sendingEnds, h, ht, hk, he]

end

/-! ## A stop bit has been sent -/

/-- The response timer starts afresh with the last stop bit of what the target answers (R31). -/
def Line.timerStarts (x : Line) (t : Transaction) : Prop := x.sent + 1 = x.frame.length ∧ t.kind.awaitsResponse = true

section
variable {s : State} {l : LineId} {t : Transaction} (hs : s.resetting = none) (hw : (s.line l).state = .sending)
  (ht : (s.line l).transaction = some t) (hsent : (s.line l).sent < (s.line l).frame.length)
include hs hw ht hsent

theorem exec_stopBitSent_of_starts (h : (s.line l).timerStarts t) : exec (.stopBitSent l) s = .next ((s.setLine l
    { s.line l with sent := (s.line l).sent + 1, timer := .running, elapsed := false }).sendingEnds l) := by
  show execStopBitSent l s = _
  rw [Line.timerStarts] at h
  simp only [execStopBitSent, State.awake_of_none hs, ht, Option.any_some, if_pos (And.intro hw hsent), State.updLine, if_pos h]

theorem exec_stopBitSent_of_not_starts (h : ¬(s.line l).timerStarts t) : exec (.stopBitSent l) s =
    .next ((s.setLine l { s.line l with sent := (s.line l).sent + 1 }).sendingEnds l) := by
  show execStopBitSent l s = _
  rw [Line.timerStarts] at h
  simp only [execStopBitSent, State.awake_of_none hs, ht, Option.any_some, if_pos (And.intro hw hsent), State.updLine, if_neg h]

end

/-! ## An echo -/

theorem State.takeEcho_passes {s : State} {l : LineId} {y : Line} {begun : Nat} {data : Byte} {mark good : Bool}
    (h : good = true ∧ begun = y.echoed ∧ y.echoed ≤ y.sent ∧ y.frame[y.echoed]? = some data ∧ mark = decide (y.echoed = 0)) :
    (s.setLine l y).takeEcho l begun data mark good = (s.setLine l { y with echoed := y.echoed + 1 }).sendingEnds l := by
  simp only [State.takeEcho, State.line_setLine_same]
  rw [if_pos h, State.setLine_updLine]

theorem State.takeEcho_fails {s : State} {l : LineId} {y : Line} {begun : Nat} {data : Byte} {mark good : Bool}
    (h : ¬(good = true ∧ begun = y.echoed ∧ y.echoed ≤ y.sent ∧ y.frame[y.echoed]? = some data ∧ mark = decide (y.echoed = 0))) :
    (s.setLine l y).takeEcho l begun data mark good = (s.setLine l y).echoFails l := by
  simp only [State.takeEcho, State.line_setLine_same]
  rw [if_neg h]

section
variable {s : State} {l : LineId} (hs : s.resetting = none) (hw : (s.line l).state = .sending)
include hs hw

/-- A character begun before SENDING is no echo (R52). -/
theorem exec_fieldCharacterReceived_before (hr : (s.line l).reception = some .plain) (data : Byte) (mark good : Bool) :
    exec (.fieldCharacterReceived l data mark good) s = .next (s.setLine l ((s.line l).finishReception good)) := by
  rw [exec_fieldCharacterReceived_of_taking hs (by rw [hw]; nofun) (by rw [hr]; nofun)]
  simp only [State.takeCharacter, hw, hr]
  rfl

/-- In SENDING a character is an echo, the one due if no fall of the pin began it (R52). -/
theorem exec_fieldCharacterReceived_echo {begun : Nat} (data : Byte) (mark good : Bool)
    (hr : (s.line l).reception = some (.echo begun) ∨ (s.line l).reception = none ∧ begun = (s.line l).echoed) :
    exec (.fieldCharacterReceived l data mark good) s =
      .next ((s.setLine l ((s.line l).finishReception good)).takeEcho l begun data mark good) := by
  rw [exec_fieldCharacterReceived_of_taking hs (by rw [hw]; nofun) (by rcases hr with hr | ⟨hr, -⟩ <;> rw [hr] <;> nofun)]
  rcases hr with hr | ⟨hr, rfl⟩ <;> simp only [State.takeCharacter, hw, hr] <;> rfl

end

/-- Settles O42: a stop bit and an echo are the two ways to complete SENDING, which ends in one place. -/
theorem sendingChecksEchoes : Obligations.SendingChecksEchoes := by
  refine ⟨sampledCharacter_characterBits, ?_⟩
  intro s l t hs x hw ht broadcast
  have answers_of (h : ¬broadcast) : t.kind.awaitsResponse = true := t.kind.awaitsResponse_eq_true_iff.mpr h
  have silent_of (h : broadcast) : t.kind.awaitsResponse = false := t.kind.awaitsResponse_eq_false_iff.mpr h
  have waits_not (h : broadcast) : ¬x.timerStarts t := fun ⟨_, answers⟩ =>
    Bool.false_ne_true ((silent_of h).symm.trans answers)
  refine ⟨fun b hb => ?pin, fun hsent hechoed => ?stop, fun hlast hall => ?lastStop, fun data mark good begun hr => ?echo,
    fun data mark good hr => exec_fieldCharacterReceived_before hs hw hr data mark good⟩
  case pin =>
    refine ⟨decide_eq_true hw, ?_⟩
    rw [Line.transmitting, if_pos hw, hb]
    exact characterBits_eq b _
  case stop =>
    have unfinished (y : Line) (hf : y.frame = x.frame) (he : y.echoed = x.echoed) :
        (s.setLine l y).sendingEnds l = s.setLine l y :=
      s.sendingEnds_unfinished l fun h => by rw [hf, he] at h; omega
    refine ⟨fun h => ?_, fun hlast h => ?_⟩
    · have starts_not : ¬x.timerStarts t := h.elim (fun more g => by have := g.1; omega) waits_not
      rw [exec_stopBitSent_of_not_starts hs hw ht hsent starts_not]
      exact congrArg _ (unfinished _ rfl rfl)
    · rw [exec_stopBitSent_of_starts hs hw ht hsent ⟨hlast, answers_of h⟩]
      exact congrArg _ (unfinished _ rfl rfl)
  case lastStop =>
    have hsent : x.sent < x.frame.length := by omega
    refine ⟨fun h => ?_, fun h => ?_⟩
    · rw [exec_stopBitSent_of_not_starts hs hw ht hsent (waits_not h)]
      exact congrArg _ (s.sendingEnds_broadcast l ⟨hlast, hall⟩ ht (silent_of h))
    · rw [exec_stopBitSent_of_starts hs hw ht hsent ⟨hlast, answers_of h⟩]
      exact congrArg _ (s.sendingEnds_waiting l ⟨hlast, hall⟩ ht (answers_of h) rfl)
  case echo =>
    intro received ended passed passes
    have taken : received = .next ((s.setLine l ended).takeEcho l begun data mark good) :=
      exec_fieldCharacterReceived_echo hs hw data mark good hr
    have passing (h : passes) : received = .next ((s.setLine l passed).sendingEnds l) :=
      taken.trans (congrArg _ (State.takeEcho_passes (y := ended) h))
    refine ⟨fun h more => ?_, fun h hechoed hsent => ⟨fun hb => ?_, fun hb he => ?_, fun hb he => ?_⟩, fun h => ?_⟩
    · refine (passing h).trans (congrArg _ (s.sendingEnds_unfinished l (y := passed) ?_))
      rintro ⟨hsent, hechoed⟩
      have hsent : x.sent = x.frame.length := hsent
      have hechoed : x.echoed + 1 = x.frame.length := hechoed
      omega
    · exact (passing h).trans (congrArg _ (s.sendingEnds_broadcast l (y := passed) ⟨hsent, hechoed⟩ ht (silent_of hb)))
    · exact (passing h).trans (congrArg _ (s.sendingEnds_timeout l (y := passed) ⟨hsent, hechoed⟩ ht (answers_of hb) he))
    · exact (passing h).trans (congrArg _ (s.sendingEnds_waiting l (y := passed) ⟨hsent, hechoed⟩ ht (answers_of hb) he))
    · intro failed
      have failing := taken.trans (congrArg _ ((State.takeEcho_fails (y := ended) h).trans (s.setLine_echoFails l ended)))
      exact ⟨fun few => failing.trans (congrArg _ (if_neg (Nat.not_le.mpr few))),
        fun fourth => failing.trans (congrArg _ (if_pos fourth))⟩

end Sys2Proof.Machine
/-! SUPPORT. Part time (R71): no operation of the model moves it, so that of the rows only the tick and the end of a reset do. -/

namespace Sys2Proof.Machine

/-! ## Messages, tags and requests -/

@[simp] theorem State.mark_partTime (s : State) (sub : Subject) : (s.mark sub).partTime = s.partTime :=
  (s.mark_queueOnly sub).partTime
@[simp] theorem State.walk_partTime (s : State) : s.walk.partTime = s.partTime := s.walk_queueOnly.partTime
@[simp] theorem State.withdraw_partTime (s : State) (i : Index) : (s.withdraw i).partTime = s.partTime :=
  (s.withdraw_queueOnly i).partTime
@[simp] theorem State.rejectFrame_partTime (s : State) : s.rejectFrame.partTime = s.partTime :=
  s.rejectFrame_queueOnly.partTime
@[simp] theorem State.queueReply_partTime (s : State) (n : Nat) (r : Reply) : (s.queueReply n r).partTime = s.partTime :=
  (s.queueReply_queueOnly n r).partTime
@[simp] theorem State.answer_partTime (s : State) (rq : Request) (status : Status) (data : List Byte) :
    (s.answer rq status data).partTime = s.partTime := (s.answer_queueOnly rq status data).partTime
@[simp] theorem State.replyEntry_partTime (s : State) (l : LineId) (status : Status) (e : DemandEntry) :
    (s.replyEntry l status e).partTime = s.partTime := (s.replyEntry_queueOnly l status e).partTime
@[simp] theorem State.endScan_partTime (s : State) (l : LineId) (status : Status) :
    (s.endScan l status).partTime = s.partTime := by
  simpa using (s.endScan_settles l status).posts.core.partTime
@[simp] theorem State.purge_partTime (s : State) (l : LineId) (i : Index) (status : Status) :
    (s.purge l i status).partTime = s.partTime := by
  simpa using (s.purge_settles l i status).posts.core.partTime
@[simp] theorem State.flush_partTime (s : State) (l : LineId) (status : Status) :
    (s.flush l status).partTime = s.partTime := by
  simpa using (s.flush_settles l status).posts.core.partTime

/-- A row that takes a request moves part time only if its owner's rule does. -/
theorem State.take_partTime (s : State) (k : Option RequestKind) {owner : Request → State → State}
    (h : ∀ rq u, (owner rq u).partTime = u.partTime) : (s.take k owner).partTime = s.partTime :=
  State.take_elim (p := fun t => t.partTime = s.partTime) k rfl fun id rq => (h rq _).trans (s.accept_partTime id rq)

/-- An event of a part out of reset moves part time only if its function does. -/
theorem State.awake_partTime {s : State} {f : State → State} (h : (f s).partTime = s.partTime) :
    (s.awake f).partTime = s.partTime := by
  obtain e | ⟨-, e⟩ := s.awake_cases f <;> rw [e]
  exact h

theorem State.onNode_partTime {s : State} {f : Index → Node → State} (h : ∀ i n, (f i n).partTime = s.partTime) (index : Nat) :
    (s.onNode index f).partTime = s.partTime := by
  obtain e | ⟨i, n, -, e⟩ := s.onNode_cases index f <;> rw [e]
  exact h i n

theorem State.inPhase_partTime {s : State} {f : Byte → Image → SlotId → Word → State}
    (h : ∀ tag image target generation, (f tag image target generation).partTime = s.partTime) (number : Nat)
    (phases : List SavePhase) : (s.inPhase number phases f).partTime = s.partTime := by
  obtain e | ⟨tag, _, image, target, generation, -, -, -, e⟩ := s.inPhase_cases number phases f <;> rw [e]
  exact h tag image target generation

theorem State.inErase_partTime {s : State} {f : Byte → SlotId → List SlotId → Bool → State}
    (h : ∀ tag slot rest held, (f tag slot rest held).partTime = s.partTime) (number : Nat) :
    (s.inErase number f).partTime = s.partTime := by
  obtain e | ⟨tag, slot, rest, held, -, -, e⟩ := s.inErase_cases number f <;> rw [e]
  exact h tag slot rest held

/-! ## Outcomes -/

@[simp] theorem State.makeDue_partTime (s : State) (l : LineId) (i : Index) : (s.makeDue l i).partTime = s.partTime :=
  s.updLine_partTime l _
@[simp] theorem State.armRecovery_partTime (s : State) (l : LineId) (i : Index) : (s.armRecovery l i).partTime = s.partTime :=
  s.updLine_partTime l _
@[simp] theorem State.goOffline_partTime (s : State) (l : LineId) (i : Index) (n : Node) :
    (s.goOffline l i n).partTime = s.partTime := by simp [State.goOffline]

@[simp] theorem State.applyService_partTime (s : State) (l : LineId) (i : Index) (n : Node) (o : FieldOutcome) :
    (s.applyService l i n o).partTime = s.partTime := by
  cases o with
  | ok content => rw [State.applyService_ok]; split <;> simp
  | exception reason => rw [State.applyService_exception]; split <;> simp
  | timeout | corrupt => simp only [State.applyService]; split <;> simp
  | collision | lineOff | lineFault => rfl

@[simp] theorem State.comeBack_partTime (s : State) (l : LineId) (i : Index) (n : Node) :
    (s.comeBack l i n).partTime = s.partTime := by simp [State.comeBack_eq]

@[simp] theorem State.applyProbe_partTime (s : State) (l : LineId) (i : Index) (n : Node) (o : FieldOutcome) :
    (s.applyProbe l i n o).partTime = s.partTime := by
  cases o <;> simp [State.applyProbe]

@[simp] theorem State.applyOutcome_partTime (s : State) (l : LineId) (i : Index) (probe : Bool) (o : FieldOutcome) :
    (s.applyOutcome l i probe o).partTime = s.partTime := by
  unfold State.applyOutcome
  split
  · rfl
  · split
    · rfl
    · simp
    · split <;> simp

@[simp] theorem State.countAttempt_partTime (s : State) (i : Index) (o : FieldOutcome) :
    (s.countAttempt i o).partTime = s.partTime := by
  rcases s.countAttempt_cases i o with h | ⟨n, c, -, -, h⟩ <;> rw [h]
  exact s.setNode_partTime i _

@[simp] theorem State.countFlight_partTime (s : State) (k : TransactionKind) (o : FieldOutcome) :
    (s.countFlight k o).partTime = s.partTime := by
  unfold State.countFlight
  split
  · exact s.countAttempt_partTime _ o
  · rfl

@[simp] theorem State.rearmPoll_partTime (s : State) (l : LineId) (i : Index) (due : Word) :
    (s.rearmPoll l i due).partTime = s.partTime := by
  unfold State.rearmPoll
  dsimp only
  split
  · rfl
  · split <;> simp

@[simp] theorem State.storeSnapshot_partTime (s : State) (i : Index) (payload : List Byte) :
    (s.storeSnapshot i payload).partTime = s.partTime := by
  obtain ⟨x, h | h⟩ := s.storeSnapshot_cases i payload <;> simp [h]

@[simp] theorem State.afterPoll_partTime (s : State) (l : LineId) (i : Index) (due : Word) (o : FieldOutcome) :
    (s.afterPoll l i due o).partTime = s.partTime := by
  cases o with
  | ok | exception | collision => simp [State.afterPoll]
  | timeout | corrupt => simp only [State.afterPoll]; split <;> simp
  | lineOff | lineFault => exact s.updLine_partTime l _

@[simp] theorem State.scanResult_partTime (s : State) (l : LineId) (address : Byte) (o : FieldOutcome) :
    (s.scanResult l address o).partTime = s.partTime := by
  unfold State.scanResult
  dsimp only
  split
  · rfl
  · split
    · simp
    · split <;> simp

@[simp] theorem State.deliver_partTime (s : State) (l : LineId) (t : Transaction) (o : FieldOutcome) :
    (s.deliver l t o).partTime = s.partTime := by
  unfold State.deliver
  split
  · split <;> simp
  all_goals simp

/-! ## The arbiter -/

@[simp] theorem State.startOnNode_partTime (s : State) (l : LineId) (i : Index) (n : Node) (kind : TransactionKind)
    (op : Operation) (allowed : Nat) (leave : Line → Line) :
    (s.startOnNode l i n kind op allowed leave).partTime = s.partTime := by simp [State.startOnNode]
@[simp] theorem State.startOnLine_partTime (s : State) (l : LineId) (kind : TransactionKind) (target : Byte) (op : Operation)
    (timeout : Option Byte) (leave : Line → Line) :
    (s.startOnLine l kind target op timeout leave).partTime = s.partTime := s.updLine_partTime l _

@[simp] theorem State.startDemand_partTime (s : State) (l : LineId) (e : DemandEntry) (rest : List DemandEntry) :
    (s.startDemand l e rest).partTime = s.partTime := by
  unfold State.startDemand
  split
  · simp
  · split <;> simp

@[simp] theorem State.startDue_partTime (s : State) (l : LineId) (e : DueEntry) (rest : List DueEntry) :
    (s.startDue l e rest).partTime = s.partTime := by
  unfold State.startDue
  split
  · rfl
  · split
    · simp
    · split <;> simp

@[simp] theorem State.startScanProbe_partTime (s : State) (l : LineId) (j : ScanJob) :
    (s.startScanProbe l j).partTime = s.partTime := by
  unfold State.startScanProbe
  dsimp only
  split <;> simp

@[simp] theorem State.askArbiter_partTime (s : State) (l : LineId) : (s.askArbiter l).partTime = s.partTime := by
  unfold State.askArbiter State.choose
  split
  · split
    · simp
    · split <;> simp
    · simp
    · simp
    · rfl
  · rfl

@[simp] theorem State.makeDueNow_partTime (s : State) (l : LineId) (i : Index) : (s.makeDueNow l i).partTime = s.partTime := by
  simp [State.makeDueNow]
@[simp] theorem State.timerExpires_partTime (s : State) (l : LineId) (i : Index) (kind : DueKind) (due : Word) :
    (s.timerExpires l i kind due).partTime = s.partTime := by simp [State.timerExpires]

/-! ## The Line Engine -/

@[simp] theorem State.endAttempt_partTime (s : State) (l : LineId) (o : FieldOutcome) (kind : GuardKind) :
    (s.endAttempt l o kind).partTime = s.partTime := by
  cases ht : (s.line l).transaction with
  | none => rw [State.endAttempt, ht]
  | some t => rw [State.endAttempt_of_some ht]; split <;> simp

@[simp] theorem State.endTransaction_partTime (s : State) (l : LineId) (o : FieldOutcome) :
    (s.endTransaction l o).partTime = s.partTime := by
  unfold State.endTransaction
  split <;> simp

@[simp] theorem State.enterFault_partTime (s : State) (l : LineId) (cause : FaultCause) :
    (s.enterFault l cause).partTime = s.partTime := by simp [State.enterFault]
@[simp] theorem State.enterOff_partTime (s : State) (l : LineId) : (s.enterOff l).partTime = s.partTime := by
  simp [State.enterOff]

@[simp] theorem State.echoFails_partTime (s : State) (l : LineId) : (s.echoFails l).partTime = s.partTime := by
  unfold State.echoFails
  dsimp only
  split <;> simp

@[simp] theorem State.sendingEnds_partTime (s : State) (l : LineId) : (s.sendingEnds l).partTime = s.partTime := by
  obtain h | ⟨t, -, -, -, ⟨-, h⟩ | ⟨-, -, h⟩ | ⟨-, -, h⟩⟩ := s.sendingEnds_cases l <;> simp [h]

@[simp] theorem State.takeEcho_partTime (s : State) (l : LineId) (begun : Nat) (data : Byte) (mark good : Bool) :
    (s.takeEcho l begun data mark good).partTime = s.partTime := by
  unfold State.takeEcho
  dsimp only
  split <;> simp

@[simp] theorem State.countLine_partTime (s : State) (l : LineId) (f : LineCounters → LineCounters) :
    (s.countLine l f).partTime = s.partTime := s.updLine_partTime l _
@[simp] theorem State.setOpenFrame_partTime (s : State) (l : LineId) (frame : Option (List Byte)) :
    (s.setOpenFrame l frame).partTime = s.partTime := s.updLine_partTime l _
@[simp] theorem State.openStray_partTime (s : State) (l : LineId) (data : Byte) :
    (s.openStray l data).partTime = s.partTime := by simp [State.openStray]

@[simp] theorem State.takeOutside_partTime (s : State) (l : LineId) (data : Byte) (mark good : Bool) :
    (s.takeOutside l data mark good).partTime = s.partTime := by
  unfold State.takeOutside
  split
  · split
    · simp
    · split
      · simp
      · split <;> simp
  · simp

@[simp] theorem State.takeWaiting_partTime (s : State) (l : LineId) (t : Transaction) (data : Byte) (mark good : Bool) :
    (s.takeWaiting l t data mark good).partTime = s.partTime := by
  unfold State.takeWaiting
  split <;> simp

@[simp] theorem State.discardCandidate_partTime (s : State) (l : LineId) : (s.discardCandidate l).partTime = s.partTime := by
  unfold State.discardCandidate
  dsimp only
  split <;> simp

@[simp] theorem State.breakCandidate_partTime (s : State) (l : LineId) : (s.breakCandidate l).partTime = s.partTime := by
  simp [State.breakCandidate]

@[simp] theorem State.takeReceiving_partTime (s : State) (l : LineId) (t : Transaction) (data : Byte) (mark good : Bool) :
    (s.takeReceiving l t data mark good).partTime = s.partTime := by
  unfold State.takeReceiving
  split
  · split
    · simp
    · split
      · simp
      · simp
      · split <;> simp
  · simp

@[simp] theorem State.takeCharacter_partTime (s : State) (l : LineId) (data : Byte) (mark good : Bool) :
    (s.takeCharacter l data mark good).partTime = s.partTime := by
  unfold State.takeCharacter
  dsimp only
  split <;> simp

/-! ## The owners of the requests -/

@[simp] theorem State.lineSet_partTime (s : State) (rq : Request) (l : LineId) (settings : LineSettings) :
    (s.lineSet rq l settings).partTime = s.partTime := by
  unfold State.lineSet
  dsimp only
  split
  · split <;> simp
  · simp

@[simp] theorem State.lineEnable_partTime (s : State) (rq : Request) (l : LineId) :
    (s.lineEnable rq l).partTime = s.partTime := by
  unfold State.lineEnable
  dsimp only
  split <;> simp

@[simp] theorem State.lineDisable_partTime (s : State) (rq : Request) (l : LineId) :
    (s.lineDisable rq l).partTime = s.partTime := by
  unfold State.lineDisable
  split <;> simp

@[simp] theorem State.lineInfo_partTime (s : State) (rq : Request) (l : LineId) (clear : Bool) :
    (s.lineInfo rq l clear).partTime = s.partTime := by
  cases clear <;> simp [State.lineInfo_eq]

@[simp] theorem State.nodeAdd_partTime (s : State) (rq : Request) (c : NodeConfig) (startDisabled : Bool) :
    (s.nodeAdd rq c startDisabled).partTime = s.partTime := by
  unfold State.nodeAdd
  dsimp only
  split
  · simp
  · split
    · simp
    · split <;> simp

@[simp] theorem State.nodeSet_partTime (s : State) (rq : Request) (i : Index) (c : NodeConfig) :
    (s.nodeSet rq i c).partTime = s.partTime := by
  unfold State.nodeSet
  dsimp only
  split
  · simp
  · split
    · simp
    · split
      · simp
      · split
        · simp
        · split <;> simp

@[simp] theorem State.nodeRemove_partTime (s : State) (rq : Request) (i : Index) :
    (s.nodeRemove rq i).partTime = s.partTime := by
  unfold State.nodeRemove
  dsimp only
  split
  · simp
  · split <;> simp

@[simp] theorem State.nodeEnable_partTime (s : State) (rq : Request) (i : Index) :
    (s.nodeEnable rq i).partTime = s.partTime := by
  unfold State.nodeEnable
  dsimp only
  split
  · simp
  · split
    · split <;> simp
    · simp

@[simp] theorem State.nodeDisable_partTime (s : State) (rq : Request) (i : Index) :
    (s.nodeDisable rq i).partTime = s.partTime := by
  unfold State.nodeDisable
  dsimp only
  split
  · simp
  · split <;> simp

@[simp] theorem State.nodeInfo_partTime (s : State) (rq : Request) (i : Index) (clear : Bool) :
    (s.nodeInfo rq i clear).partTime = s.partTime := by
  unfold State.nodeInfo
  split
  · simp
  · cases clear <;> simp

@[simp] theorem State.readSnapshot_partTime (s : State) (rq : Request) (i : Index) :
    (s.readSnapshot rq i).partTime = s.partTime := by
  unfold State.readSnapshot
  split <;> simp

@[simp] theorem State.acceptDemand_partTime (s : State) (l : LineId) (e : DemandEntry) :
    (s.acceptDemand l e).partTime = s.partTime := by simp [State.acceptDemand]

@[simp] theorem State.demand_partTime (s : State) (rq : Request) (i : Index) (op : Operation) :
    (s.demand rq i op).partTime = s.partTime := by
  unfold State.demand
  dsimp only
  split
  · simp
  · split
    · simp
    · split
      · simp
      · split <;> simp

@[simp] theorem State.broadcast_partTime (s : State) (rq : Request) (l : LineId) (op : Operation) :
    (s.broadcast rq l op).partTime = s.partTime := by
  unfold State.broadcast
  split
  · simp
  · split <;> simp

@[simp] theorem State.cancelEntry_partTime (s : State) (l : LineId) (e : DemandEntry) :
    (s.cancelEntry l e).partTime = s.partTime := by simp [State.cancelEntry]

@[simp] theorem State.cancel_partTime (s : State) (rq : Request) (target : Byte) :
    (s.cancel rq target).partTime = s.partTime := by
  unfold State.cancel
  split
  · simp
  · simp
  · split <;> simp

@[simp] theorem State.scanStart_partTime (s : State) (rq : Request) (l : LineId) (first last timeout : Byte) :
    (s.scanStart rq l first last timeout).partTime = s.partTime := by
  unfold State.scanStart
  split
  · simp
  · split
    · simp
    · split
      · simp
      · split <;> simp

@[simp] theorem State.scanAbort_partTime (s : State) (rq : Request) (l : LineId) :
    (s.scanAbort rq l).partTime = s.partTime := by
  unfold State.scanAbort
  split
  · simp
  · split <;> simp

/-! ## The store -/

@[simp] theorem State.endSave_partTime (s : State) (tag : Byte) (generation : Word) (good : Bool) :
    (s.endSave tag generation good).partTime = s.partTime := by
  cases good <;> simp [State.endSave]

@[simp] theorem State.startSave_partTime (s : State) (tag : Byte) : (s.startSave tag).partTime = s.partTime := by
  unfold State.startSave
  dsimp only
  split <;> simp

@[simp] theorem State.endErase_partTime (s : State) (tag : Byte) (status : Status) :
    (s.endErase tag status).partTime = s.partTime := by simp [State.endErase]

@[simp] theorem State.eraseNext_partTime (s : State) (tag : Byte) (slots : List SlotId) :
    (s.eraseNext tag slots).partTime = s.partTime := by
  cases slots <;> simp [State.eraseNext, State.invalidate]

@[simp] theorem State.storeSave_partTime (s : State) (rq : Request) : (s.storeSave rq).partTime = s.partTime := by
  unfold State.storeSave
  split
  · simp
  · split <;> simp

@[simp] theorem State.storeErase_partTime (s : State) (rq : Request) : (s.storeErase rq).partTime = s.partTime := by
  unfold State.storeErase
  split
  · simp
  · split <;> simp

/-! ## The host link -/

@[simp] theorem State.acknowledge_partTime (s : State) (ack : Bool) : (s.acknowledge ack).partTime = s.partTime := rfl

@[simp] theorem State.endWrite_partTime (s : State) (id : SlotId) (overLength : Bool) :
    (s.endWrite id overLength).partTime = s.partTime := by
  unfold State.endWrite
  dsimp only
  split
  · split
    · simp
    · split <;> simp
  · rfl

@[simp] theorem State.endRead_partTime (s : State) (message : Option Message) (sent : Nat) :
    (s.endRead message sent).partTime = s.partTime := by
  unfold State.endRead
  dsimp only
  split
  · split <;> simp
  · rfl

@[simp] theorem State.endLink_partTime (s : State) : s.endLink.partTime = s.partTime := by
  unfold State.endLink
  split <;> simp

@[simp] theorem State.storeByte_partTime (s : State) (id : SlotId) (data : Byte) :
    (s.storeByte id data).partTime = s.partTime := by
  unfold State.storeByte
  split
  · split <;> simp
  · rfl

/-! ## The rows -/

/-- The rows that may move part time: the tick and the end of a reset (R71). -/
def timeRow : Instr → Bool
  | .partTimeTick | .resetComplete _ _ => true
  | _ => false

theorem execGuardEnd_partTime {l : LineId} {s t : State} (h : execGuardEnd l s = .next t) : t.partTime = s.partTime := by
  cases h
  refine State.awake_partTime ?_
  split
  · split <;> simp
  · rfl

theorem execWriteTransactionStart_partTime {address : BitVec 7} {s t : State}
    (h : execWriteTransactionStart address s = .next t) : t.partTime = s.partTime := by
  cases h
  split
  · rfl
  · dsimp only
    split
    · split <;> simp
    · simp

theorem execReadTransactionStart_partTime {address : BitVec 7} {s t : State}
    (h : execReadTransactionStart address s = .next t) : t.partTime = s.partTime := by
  cases h
  split
  · rfl
  · dsimp only
    split <;> simp

theorem execStallTimerExpiry_partTime {s t : State} (h : execStallTimerExpiry s = .next t) : t.partTime = s.partTime := by
  cases h
  refine State.awake_partTime ?_
  dsimp only
  split <;> simp

theorem execSnapshotAgeOut_partTime {index : Nat} {s t : State} (h : execSnapshotAgeOut index s = .next t) :
    t.partTime = s.partTime := by
  cases h
  refine State.awake_partTime (State.onNode_partTime (fun i _ => ?_) index)
  split
  · split
    · split <;> simp
    · rfl
  · rfl

theorem execEraseInvalidationCompletion_partTime {cleared : Bool} {phase : Nat} {s t : State}
    (h : execEraseInvalidationCompletion cleared s phase = .next t) : t.partTime = s.partTime := by
  cases h
  refine State.awake_partTime (State.inErase_partTime (fun tag slot rest held => ?_) phase)
  cases cleared <;> simp

/-- A row that is neither the tick nor the end of a reset leaves part time alone (R71). -/
theorem exec_partTime {c : Instr} {s t : State} (hc : timeRow c = false) (h : exec c s = .next t) :
    t.partTime = s.partTime := by
  cases c with
  | partTimeTick | resetComplete => cases hc
  | status | resetRequest | lineSet | lineEnable | lineDisable | lineInfo | nodeAdd | nodeSet | nodeRemove | nodeEnable
  | nodeDisable | nodeInfo | readSnapshot | demand | broadcast | cancel | scanStart | scanAbort | storeSave | storeErase =>
    cases h
    refine s.take_partTime _ fun rq u => ?_
    split <;> simp [State.beginReset]
  | unknownKind => cases h; exact s.take_partTime _ fun rq u => u.queueReply_partTime _ _
  | powerUp => cases h; rfl
  | rstPinLow => cases h; split <;> rfl
  | writeTransactionStart => exact execWriteTransactionStart_partTime h
  | readTransactionStart => exact execReadTransactionStart_partTime h
  | writeDataByte => cases h; split <;> simp
  | writeTransactionEnd | readTransactionEnd | readByteClocked =>
    cases h
    refine State.awake_partTime ?_
    split <;> simp
  | stallTimerExpiry => exact execStallTimerExpiry_partTime h
  | pollTimerExpiry | recoveryTimerExpiry =>
    cases h
    refine State.awake_partTime (State.onNode_partTime (fun i n => ?_) _)
    split <;> simp
  | dueTimeAdvance => cases h; exact State.awake_partTime (State.onNode_partTime (fun i n => s.updLine_partTime _ _) _)
  | snapshotAgeOut => exact execSnapshotAgeOut_partTime h
  | responseTimerExpiry | echoDeadlineExpiry | stuckSpaceExpiry | faultRecovery | fieldCharacterReceived =>
    cases h
    refine State.awake_partTime ?_
    split <;> simp
  | frameGapExpiry =>
    cases h
    refine State.awake_partTime ?_
    split
    · split <;> simp
    · rfl
  | stopBitSent =>
    cases h
    refine State.awake_partTime ?_
    dsimp only
    split <;> simp
  | guardEnd => exact execGuardEnd_partTime h
  | receivePinChange => cases h; split <;> simp
  | saveWriteCompletion | saveWriteTimerExpiry | saveMarkWriteCompletion | saveVerifyTimerExpiry =>
    cases h
    exact State.awake_partTime (State.inPhase_partTime (fun tag image target generation => by simp) _ _)
  | saveVerifyReadBack equal =>
    cases h
    exact State.awake_partTime (State.inPhase_partTime (fun tag image target generation => by cases equal <;> simp) _ _)
  | eraseInvalidationCompletion => exact execEraseInvalidationCompletion_partTime h
  | eraseTimerExpiry =>
    cases h
    exact State.awake_partTime (State.inErase_partTime (fun tag _ _ _ => s.endErase_partTime tag _) _)

/-! ## The end of a reset -/

theorem State.makeAllDue_partTime (is : List Index) (s : State) :
    (is.foldl State.makeDueIfNew s).partTime = s.partTime := by
  induction is generalizing s with
  | nil => rfl
  | cons i is ih =>
    refine (ih _).trans ?_
    unfold State.makeDueIfNew
    split
    · split <;> simp
    · rfl

/-- The part comes out of reset with part time 0 (R71, R161). -/
theorem State.comeOut_partTime (s : State) (cause : ResetCause) (strap : BitVec 2) : (s.comeOut cause strap).partTime = 0 := by
  simp only [State.comeOut, State.askArbiter_partTime, State.makeAllDue_partTime]
  rfl

theorem exec_resetComplete_of_resetting {s : State} {cause : ResetCause} (h : s.resetting = some cause) (adr1 adr0 : Bool) :
    exec (.resetComplete adr1 adr0) s = .next (s.comeOut cause (BitVec.ofBool adr1 ++ BitVec.ofBool adr0)) := by
  show execResetComplete adr1 adr0 s = _
  rw [execResetComplete, h]

theorem exec_resetComplete_of_awake {s : State} (h : s.resetting = none) (adr1 adr0 : Bool) :
    exec (.resetComplete adr1 adr0) s = .next s := by
  show execResetComplete adr1 adr0 s = _
  rw [execResetComplete, h]

/-- Settles O32: every row but two leaves part time alone, and RESET_COMPLETE moves it only as it ends a reset. -/
theorem tickAloneMovesPartTime : Obligations.TickAloneMovesPartTime := by
  refine ⟨fun s hs => ?tick, fun c s t h => ?others, fun s cause adr1 adr0 hs => ?reset⟩
  case tick => exact congrArg _ (State.awake_of_none hs _)
  case others =>
    cases hc : timeRow c with
    | false => exact .inl (exec_partTime hc h)
    | true =>
      cases c with
      | partTimeTick => exact .inr (.inl rfl)
      | resetComplete adr1 adr0 =>
        cases hr : s.resetting with
        | none =>
          rw [exec_resetComplete_of_awake hr] at h
          cases h
          exact .inl rfl
        | some cause =>
          rw [exec_resetComplete_of_resetting hr] at h
          obtain rfl := Host.Outcome.next.inj h
          exact .inr (.inr ⟨s.comeOut_partTime _ _, adr1, adr0, rfl⟩)
      | _ => cases hc
  case reset => exact ⟨_, exec_resetComplete_of_resetting hs adr1 adr0, s.comeOut_partTime _ _⟩

end Sys2Proof.Machine
/-! SUPPORT. The timed events of a node: its timers, the place in the due list, the advance of a waiting due time, and the age of
its record (R72, R74 to R76, R78, R93). -/

namespace Sys2Proof.Machine

/-! ## The due list -/

theorem later_eq (t1 t2 : Word) : later t1 t2 = decide (1 ≤ (t1 - t2).toNat ∧ (t1 - t2).toNat ≤ 2147483647) :=
  (Bool.decide_and _ _).symm

/-- An entry of the due list that stays ahead of one that joins: due earlier, or as early with no higher index (R76). -/
def DueEntry.staysAhead (e d : DueEntry) : Bool :=
  decide (1 ≤ (e.due - d.due).toNat ∧ (e.due - d.due).toNat ≤ 2147483647) || (e.due = d.due && d.index.val ≤ e.index.val)

/-- An entry joins behind the entries at the head of the list that stay ahead of it, and before the rest (R76). -/
theorem joinDue_eq (due : List DueEntry) (e : DueEntry) :
    joinDue due e = due.takeWhile e.staysAhead ++ e :: due.dropWhile e.staysAhead := by
  induction due with
  | nil => rfl
  | cons d rest ih =>
    have test : (later e.due d.due || (e.due = d.due && d.index.val ≤ e.index.val)) = e.staysAhead d := by
      rw [later_eq, DueEntry.staysAhead]
    rw [joinDue, test]
    cases h : e.staysAhead d with
    | true => simp [h, ih]
    | false => simp [h]

/-! ## The timers of a node -/

theorem State.onNode_of_node {s : State} {i : Index} {n : Node} (h : s.node i = some n) (f : Index → Node → State) :
    s.onNode i.val f = f i n := by
  simp [State.onNode, h]

/-- The due time of a node's poll or recovery timer, if it runs. -/
def Line.timerOf (x : Line) (i : Index) : DueKind → Option Word
  | .poll => x.pollTimers.get i
  | .recovery => x.recoveryTimers.get i

/-- The line with a node's poll or recovery timer stopped. -/
def Line.stopTimer (x : Line) (i : Index) : DueKind → Line
  | .poll => x.setPollTimer i none
  | .recovery => x.setRecoveryTimer i none

/-- The row of the expiry of a node's poll or recovery timer. -/
def expiryRow (i : Index) : DueKind → Instr
  | .poll => .pollTimerExpiry i.val
  | .recovery => .recoveryTimerExpiry i.val

/-- What the expiry of a timer does: the timer stops, its node joins the due list, and the arbiter is asked (R74, R75, R81). -/
theorem State.timerExpires_eq (s : State) (l : LineId) (i : Index) (kind : DueKind) (due : Word) :
    s.timerExpires l i kind due = (s.setLine l { (s.line l).stopTimer i kind with
      dueList := joinDue (s.line l).dueList { index := i, kind := kind, due := due } }).askArbiter l := by
  cases kind <;> rfl

theorem exec_expiryRow {s : State} {i : Index} {n : Node} (hs : s.resetting = none) (hn : s.node i = some n) (kind : DueKind) :
    exec (expiryRow i kind) s = .next (if (s.line n.config.line).timerOf i kind = some s.partTime then
      s.timerExpires n.config.line i kind s.partTime else s) := by
  cases kind with
  | poll =>
    show execPollTimerExpiry i.val s = _
    rw [execPollTimerExpiry, State.awake_of_none hs, State.onNode_of_node hn]
    rfl
  | recovery =>
    show execRecoveryTimerExpiry i.val s = _
    rw [execRecoveryTimerExpiry, State.awake_of_none hs, State.onNode_of_node hn]
    rfl

/-- The expiry of either timer at its millisecond, and the row at any other (R72, R74, R75). -/
theorem exec_expiryRow_cases {s : State} {i : Index} {n : Node} (hs : s.resetting = none) (hn : s.node i = some n)
    (kind : DueKind) :
    let l := n.config.line
    let x := s.line l
    let e : DueEntry := { index := i, kind := kind, due := s.partTime }
    (x.timerOf i kind = some s.partTime → exec (expiryRow i kind) s = .next ((s.setLine l { x.stopTimer i kind with
      dueList := x.dueList.takeWhile e.staysAhead ++ e :: x.dueList.dropWhile e.staysAhead }).askArbiter l)) ∧
    (x.timerOf i kind ≠ some s.partTime → exec (expiryRow i kind) s = .next s) := by
  intro l x e
  rw [exec_expiryRow hs hn]
  refine ⟨fun h => ?_, fun h => congrArg _ (if_neg h)⟩
  rw [if_pos h, State.timerExpires_eq, joinDue_eq]

/-- Settles O33: the place of joining by recursion on the due list, and the two timers by one rule for their expiry. -/
theorem timerExpiryJoinsDueList : Obligations.TimerExpiryJoinsDueList := by
  refine ⟨fun due e => joinDue_eq due e, fun s i n kind hs hn => ?_⟩
  have expiry := exec_expiryRow_cases hs hn kind
  cases kind with
  | poll => exact expiry
  | recovery => exact expiry

/-! ## Waiting entries and records -/

/-- An entry more than 60000 ms behind part time is brought to stand 60000 ms behind it (R78). -/
theorem DueEntry.advance_eq (d : DueEntry) (i : Index) (now : Word) : d.advance i now =
    if d.index = i ∧ 60000 < (now - d.due).toNat ∧ (now - d.due).toNat ≤ 2147483647 then { d with due := now - 60000 } else d := by
  have behind : (later now d.due = true ∧ Config.dueBound < now - d.due) ↔
      60000 < (now - d.due).toNat ∧ (now - d.due).toNat ≤ 2147483647 := by
    have bound : Config.dueBound < now - d.due ↔ 60000 < (now - d.due).toNat := Iff.rfl
    rw [later_eq, decide_eq_true_eq, bound]
    omega
  rw [DueEntry.advance]
  exact if_congr (and_congr_right' behind) rfl rfl

theorem exec_dueTimeAdvance_of_node {s : State} {i : Index} {n : Node} (hs : s.resetting = none) (hn : s.node i = some n) :
    exec (.dueTimeAdvance i.val) s = .next (s.updLine n.config.line fun x =>
      { x with dueList := x.dueList.map fun d => d.advance i s.partTime }) := by
  show execDueTimeAdvance i.val s = _
  rw [execDueTimeAdvance, State.awake_of_none hs, State.onNode_of_node hn]

theorem exec_snapshotAgeOut_of_record {s : State} {i : Index} {n : Node} {x : Snapshot} {r : SnapshotRecord}
    (hs : s.resetting = none) (hn : s.node i = some n) (hx : s.snapshot i = some x) (hr : x.record = some r) :
    exec (.snapshotAgeOut i.val) s = .next (if s.partTime - r.captured = 240000 then
      s.setSnapshot i (some { x with record := some { r with agedOut := true } }) else s) := by
  have aged : s.partTime = r.captured + Config.ageBound ↔ s.partTime - r.captured = 240000 := by
    rw [Config.ageBound, BitVec.sub_eq_iff_eq_add, BitVec.add_comm]
  show execSnapshotAgeOut i.val s = _
  rw [execSnapshotAgeOut, State.awake_of_none hs, State.onNode_of_node hn]
  simp only [hx, hr, aged]

/-- Settles O34: the two rows, each on the entry or record that its index names. -/
theorem waitingEntriesAge : Obligations.WaitingEntriesAge := by
  refine ⟨fun s i n hs hn => ?_, fun s i n x r hs hn hx hr => ?_⟩
  · rw [exec_dueTimeAdvance_of_node hs hn]
    simp only [DueEntry.advance_eq]
  · rw [exec_snapshotAgeOut_of_record hs hn hx hr]
    exact ⟨fun h => congrArg _ (if_pos h), fun h => congrArg _ (if_neg h)⟩

end Sys2Proof.Machine
/-! SUPPORT. The arbiter (R81 to R84, R126): its choice by the three collections of a line, and how each piece of work starts. -/

namespace Sys2Proof.Machine

/-! ## The first attempt -/

/-- The frame of a first attempt has the plain kind (R28, R167). -/
theorem Transaction.frame_of_first {t : Transaction} (h : t.made = 1) : t.frame = withCrc
    ([t.target, t.operation.fieldKind, t.sequence, byteOf t.operation.payload.length] ++ t.operation.payload) := by
  rw [Transaction.frame, if_pos (Nat.le_of_eq h)]
  rfl

/-! ## The choice -/

theorem State.askArbiter_of_idle {s : State} {l : LineId} (h : (s.line l).state = .idle) : s.askArbiter l = s.choose l :=
  if_pos h

section
variable {s : State} {l : LineId}

/-- The demand queue goes first, but for a streak of 4 with a node due (R82). -/
theorem State.choose_demand {e : DemandEntry} {rest : List DemandEntry} (hq : (s.line l).demandQueue = e :: rest)
    (hs : ¬((s.line l).streak = 4 ∧ (s.line l).dueList ≠ [])) : s.choose l = s.startDemand l e rest := by
  unfold State.choose
  cases hd : (s.line l).dueList with
  | nil => rw [hq]
  | cons d due =>
    have short : (s.line l).streak ≠ Config.streakLimit := fun h => hs ⟨h, by simp [hd]⟩
    rw [hq]
    exact if_neg short

/-- The due list goes first behind an empty demand queue, and after a streak of 4 (R82). -/
theorem State.choose_due {d : DueEntry} {rest : List DueEntry} (hd : (s.line l).dueList = d :: rest)
    (hq : (s.line l).demandQueue = [] ∨ (s.line l).streak = 4) : s.choose l = s.startDue l d rest := by
  unfold State.choose
  cases he : (s.line l).demandQueue with
  | nil => rw [hd]
  | cons e queue =>
    have full : (s.line l).streak = Config.streakLimit := hq.resolve_left (by simp [he])
    rw [hd]
    exact if_pos full

theorem State.choose_scan {j : ScanJob} (hq : (s.line l).demandQueue = []) (hd : (s.line l).dueList = [])
    (hj : (s.line l).scan = some j) : s.choose l = s.startScanProbe l j := by
  rw [State.choose, hq, hd, hj]

theorem State.choose_nothing (hq : (s.line l).demandQueue = []) (hd : (s.line l).dueList = [])
    (hj : (s.line l).scan = none) : s.choose l = s := by
  rw [State.choose, hq, hd, hj]

end

/-! ## Demands, polls and recovery probes -/

/-- The start of a transaction on a node (R2, R4, R26, R83). -/
theorem State.startOnNode_eq (s : State) (l : LineId) (i : Index) (n : Node) (kind : TransactionKind) (op : Operation)
    (allowed : Nat) (leave : Line → Line) : s.startOnNode l i n kind op allowed leave =
      (s.setNode i (some { n with nextSequence := n.nextSequence + 1, mark := .attached })).setLine l
        ((leave (s.line l)).startAttempt
          { kind := kind, target := n.config.address, operation := op, sequence := n.nextSequence, allowed := allowed, made := 1
            timeout := some n.config.timeout, last := none }) := by
  rw [State.startOnNode, State.updLine, State.line_setNode]

theorem State.startDemand_broadcast (s : State) (l : LineId) {e : DemandEntry} (he : e.node = none) (rest : List DemandEntry) :
    s.startDemand l e rest = s.startOnLine l (.broadcast e.tag e.reserved) 0 e.operation none
      fun x => { x with demandQueue := rest, streak := streakUp x.streak } := by
  rw [State.startDemand, he]

theorem State.startDemand_node {s : State} {e : DemandEntry} {i : Index} {n : Node} (he : e.node = some i)
    (hn : s.node i = some n) (l : LineId) (rest : List DemandEntry) :
    s.startDemand l e rest = s.startOnNode l i n (.demand i e.tag e.reserved) e.operation (1 + n.config.retries.toNat)
      fun x => { x with demandQueue := rest, streak := streakUp x.streak } := by
  simp only [State.startDemand, he, hn]

theorem State.startDue_poll {s : State} {d : DueEntry} {n : Node} {p : PollDescriptor} (hn : s.node d.index = some n)
    (hk : d.kind = .poll) (hp : n.config.descriptor = some p) (l : LineId) (rest : List DueEntry) :
    s.startDue l d rest = s.startOnNode l d.index n (.poll d.index d.due) (.read p.start p.count)
      (1 + n.config.retries.toNat) fun x => { x with dueList := rest, streak := 0 } := by
  simp only [State.startDue, hn, hk, hp]

theorem State.startDue_recovery {s : State} {d : DueEntry} {n : Node} (hn : s.node d.index = some n)
    (hk : d.kind = .recovery) (l : LineId) (rest : List DueEntry) :
    s.startDue l d rest = s.startOnNode l d.index n (.recoveryProbe d.index) .ping 1
      fun x => { x with dueList := rest, streak := 0 } := by
  simp only [State.startDue, hn, hk]

/-! ## Scan probes -/

theorem toNat_next {a : Byte} (h : a.toNat < 255) : (a + 1).toNat = a.toNat + 1 :=
  BitVec.toNat_add_of_lt (y := 1) (by change a.toNat + 1 < 256; omega)

/-- The skip from `a` ends at `b`: every address before it is held and not above the last, and `b` is above the last or not
held (R126). -/
theorem skipHeld_eq {held : Byte → Bool} {last b : Byte} (hb : ¬(b.toNat ≤ last.toNat ∧ held b = true)) {n : Nat} {a : Byte}
    (hab : a.toNat ≤ b.toNat) (hn : b.toNat - a.toNat ≤ n)
    (hheld : ∀ c : Byte, a.toNat ≤ c.toNat → c.toNat < b.toNat → c.toNat ≤ last.toNat ∧ held c = true) :
    skipHeld held last n a = b := by
  induction n generalizing a with
  | zero =>
    rw [skipHeld]
    exact BitVec.eq_of_toNat_eq (by omega)
  | succ n ih =>
    simp only [skipHeld, Bool.and_eq_true, decide_eq_true_eq]
    by_cases h : a = b
    · rw [if_neg (h ▸ hb), h]
    · have before : a.toNat < b.toNat := Nat.lt_of_le_of_ne hab fun e => h (BitVec.eq_of_toNat_eq e)
      have next := toNat_next (a := a) (by have := b.isLt; omega)
      rw [if_pos (hheld a (Nat.le_refl _) before)]
      exact ih (by omega) (by omega) fun c hc => hheld c (by omega)

section
variable {s : State} {l : LineId} {j : ScanJob}

/-- A scan probe starts at the first address that no entry in use holds (R126, R127). -/
theorem State.startScanProbe_free {a : Byte} (hnext : j.next.toNat ≤ a.toNat) (hlast : a.toNat ≤ j.last.toNat)
    (hfree : s.addressHeld l a ≠ true)
    (hheld : ∀ b : Byte, j.next.toNat ≤ b.toNat → b.toNat < a.toNat → s.addressHeld l b = true) :
    s.startScanProbe l j = s.startOnLine l .scanProbe a .ping (some j.timeout) fun x =>
      { x with scan := some { j with next := a, probe := some a } } := by
  have skipped : skipHeld (s.addressHeld l) j.last 256 j.next = a :=
    skipHeld_eq (fun h => hfree h.2) hnext (by have := a.isLt; omega) fun b hb hba => ⟨by omega, hheld b hb hba⟩
  rw [State.startScanProbe, skipped]
  exact if_neg (Nat.not_lt.mpr hlast)

/-- The job ends OK when every address still to probe is held (R126). -/
theorem State.startScanProbe_done (hlast : j.last.toNat ≤ 247)
    (hheld : ∀ a : Byte, j.next.toNat ≤ a.toNat → a.toNat ≤ j.last.toNat → s.addressHeld l a = true) :
    ∃ next, s.startScanProbe l j = (s.updLine l fun x => { x with scan := some { j with next := next } }).endScan l .ok := by
  obtain ⟨b, skipped, above⟩ : ∃ b, skipHeld (s.addressHeld l) j.last 256 j.next = b ∧ j.last.toNat < b.toNat := by
    by_cases h : j.last.toNat < j.next.toNat
    · exact ⟨j.next, skipHeld_eq (fun g => by omega) (Nat.le_refl _) (by omega) fun c hc hlt => by omega, h⟩
    · have succ := toNat_next (a := j.last) (by omega)
      exact ⟨j.last + 1, skipHeld_eq (fun g => by omega) (by omega) (by omega)
        fun c hc hlt => ⟨by omega, hheld c hc (by omega)⟩, by omega⟩
  refine ⟨b, ?_⟩
  rw [State.startScanProbe, skipped]
  exact if_pos above

end

/-- The end of a scan job that has its line's place: what the job holds of the addresses still to probe is not reported (R130). -/
theorem State.endScan_setNext (s : State) (l : LineId) (j : ScanJob) (next : Byte) (status : Status) :
    (s.updLine l fun x => { x with scan := some { j with next := next } }).endScan l status = State.queueReply
      { s.setLine l { s.line l with scan := none } with tags := s.tags.filter fun t => t ≠ j.tag } 57 (j.reply l status) := by
  rw [State.endScan, State.line_updLine_same]
  cases l <;> rfl

/-- Settles O49: the choice by the three collections, then the start of what is chosen. -/
theorem arbiterChooses : Obligations.ArbiterChooses := by
  refine ⟨fun _ _ _ => rfl, fun x t ht => ?_, fun s l => ?_⟩
  · rw [Line.startAttempt, Transaction.frame_of_first ht]
  intro x
  refine ⟨fun h => if_neg h, fun h => ?_⟩
  rw [State.askArbiter_of_idle h]
  refine ⟨fun e rest hq hs => ?demand, fun d rest hd hq n hn => ?due, fun j hq hd hj hlast => ?scan,
    fun hq hd hj => State.choose_nothing hq hd hj⟩
  case demand =>
    rw [State.choose_demand hq hs]
    refine ⟨fun he => ?_, fun i n he hn => ?_⟩
    · rw [State.startDemand_broadcast s l he]
      rfl
    · rw [State.startDemand_node he hn, State.startOnNode_eq]
      rfl
  case due =>
    rw [State.choose_due hd hq]
    refine ⟨fun p hk hp => ?_, fun hk => ?_⟩
    · rw [State.startDue_poll hn hk hp, State.startOnNode_eq]
    · rw [State.startDue_recovery hn hk, State.startOnNode_eq]
  case scan =>
    rw [State.choose_scan hq hd hj]
    have held_iff (a : Byte) := s.addressHeld_eq_true_iff l a
    refine ⟨fun a hnext hle hfree hheld => ?_, fun hheld => ?_⟩
    · rw [State.startScanProbe_free hnext hle (fun g => hfree ((held_iff a).mp g)) fun b hb hlt =>
        (held_iff b).mpr (hheld b hb hlt)]
      rfl
    · obtain ⟨next, done⟩ := State.startScanProbe_done hlast fun a ha hle => (held_iff a).mpr (hheld a ha hle)
      rw [done]
      exact s.endScan_setNext l j next .ok

end Sys2Proof.Machine
/-! SUPPORT. The delivery of an outcome (R44): replies, the Node Table, the end of a poll, and the Snapshot Table (R79, R80, R92,
R113, R116). -/

namespace Sys2Proof.Machine

/-! ## The recipients -/

section
variable (s : State) (l : LineId) {t : Transaction} (o : FieldOutcome)

theorem State.deliver_demand {i : Index} {tag : Byte} {reserved : Nat} (ht : t.kind = .demand i tag reserved) :
    s.deliver l t o = ((s.dropTag tag).queueReply reserved
      (demandReply l tag (some i) t.operation o.status o.data)).applyOutcome l i false o := by
  rw [State.deliver, ht]

theorem State.deliver_broadcast {tag : Byte} {reserved : Nat} (ht : t.kind = .broadcast tag reserved) :
    s.deliver l t o = (s.dropTag tag).queueReply reserved (demandReply l tag none t.operation o.status []) := by
  rw [State.deliver, ht]

theorem State.deliver_recoveryProbe {i : Index} (ht : t.kind = .recoveryProbe i) :
    s.deliver l t o = s.applyOutcome l i true o := by
  rw [State.deliver, ht]

variable {s} {i : Index} {due : Word} {n : Node} (ht : t.kind = .poll i due) (hn : s.node i = some n)
include ht hn

theorem State.deliver_poll_attached (hm : n.mark = .attached) :
    s.deliver l t o = (s.applyOutcome l i false o).afterPoll l i due o := by
  rw [State.deliver, ht]
  exact if_pos ((s.attached_iff i).mpr ⟨n, hn, hm⟩)

theorem State.deliver_poll_unattached (hm : n.mark ≠ .attached) : s.deliver l t o = s.applyOutcome l i false o := by
  have unattached : s.attached i ≠ true := fun h => by
    obtain ⟨n', hn', hm'⟩ := (s.attached_iff i).mp h
    cases hn.symm.trans hn'
    exact hm hm'
  rw [State.deliver, ht]
  exact if_neg unattached

end

/-! ## The end of a poll -/

section
variable {s : State} {i : Index} {n : Node} (hn : s.node i = some n) (l : LineId) (due : Word)
include hn

/-- A poll that was answered, or whose failure leaves its node in service, is armed again (R79). -/
theorem State.afterPoll_rearms {o : FieldOutcome} (hm : n.state ≠ .offline)
    (ho : (∃ reason, o = .exception reason) ∨ o = .collision ∨ o = .timeout ∨ o = .corrupt) :
    s.afterPoll l i due o = s.rearmPoll l i due := by
  have inService : ¬(s.node i).map Node.state = some .offline := by simpa [hn] using hm
  rcases ho with ⟨reason, rfl⟩ | rfl | rfl | rfl
  · rfl
  · rfl
  · exact if_neg inService
  · exact if_neg inService

/-- A poll whose failure took its node OFFLINE leaves no timer (R18, R79). -/
theorem State.afterPoll_offline {o : FieldOutcome} (hm : n.state = .offline) (ho : o = .timeout ∨ o = .corrupt) :
    s.afterPoll l i due o = s := by
  have offline : (s.node i).map Node.state = some .offline := by simp [hn, hm]
  rcases ho with rfl | rfl
  · exact if_pos offline
  · exact if_pos offline

/-- The next due time is one period on from the last, if that is later than the end time (R79). -/
theorem State.rearmPoll_onTime (h : later (due + n.config.period.setWidth 32) s.partTime = true) :
    s.rearmPoll l i due = s.updLine l fun x => x.setPollTimer i (some (due + n.config.period.setWidth 32)) := by
  rw [State.rearmPoll, hn]
  exact if_pos h

/-- Otherwise it is one period on from the end time, and a late poll is counted (R79). -/
theorem State.rearmPoll_late (h : later (due + n.config.period.setWidth 32) s.partTime ≠ true) :
    s.rearmPoll l i due =
      (s.updLine l fun x => x.setPollTimer i (some (s.partTime + n.config.period.setWidth 32))).setNode i
        (some { n with counters := { n.counters with latePolls := countUp n.counters.latePolls } }) := by
  rw [State.rearmPoll, hn]
  exact if_neg h

end

theorem State.afterPoll_lost (s : State) (l : LineId) (i : Index) (due : Word) {o : FieldOutcome} (ho : o.lost) :
    s.afterPoll l i due o = s.putBackPoll l i due := by
  rcases ho with rfl | rfl <;> rfl

/-! ## The Snapshot Table -/

/-- The record that an OK payload leaves (R92). -/
def State.capturedRecord (s : State) (payload : List Byte) : SnapshotRecord :=
  { payload := payload, captured := s.partTime, agedOut := false }

section
variable {s : State} {i : Index} {x : Snapshot} {payload : List Byte} (hx : s.snapshot i = some x)
include hx

/-- An unchanged payload is stored with its capture time (R92). -/
theorem State.storeSnapshot_same (h : x.record.map SnapshotRecord.payload = some payload) :
    s.storeSnapshot i payload =
      s.setSnapshot i (some { update := x.update, record := some (s.capturedRecord payload) }) := by
  simp [State.storeSnapshot, State.capturedRecord, hx, h]

/-- A changed payload raises the update number too, and may mark CHANGE (R92). -/
theorem State.storeSnapshot_changed (h : x.record.map SnapshotRecord.payload ≠ some payload) {n : Node}
    (hn : s.node i = some n) :
    let u := s.setSnapshot i (some { update := x.update + 1, record := some (s.capturedRecord payload) })
    s.storeSnapshot i payload = if n.config.notify = true then u.mark (.change i) else u := by
  simp [State.storeSnapshot, State.capturedRecord, hx, h, hn]

end

/-- Settles O52: the delivery by the kind of transaction, the end of a poll by its outcome, the record by what it held. -/
theorem deliveryReachesRecipients : Obligations.DeliveryReachesRecipients := by
  refine ⟨fun _ _ => rfl, fun _ _ _ _ _ _ => ⟨rfl, rfl⟩, fun s l t o => ?delivery, fun s l i n due hn => ?rearm,
    fun s i n x payload hn hx => ?snapshot⟩
  case delivery =>
    refine ⟨fun i tag reserved ht => s.deliver_demand l o ht, fun tag reserved ht => s.deliver_broadcast l o ht,
      fun i ht => s.deliver_recoveryProbe l o ht, fun i due n m ht hn => ?_⟩
    refine ⟨State.deliver_poll_unattached l o ht hn, fun hm ha => ?_⟩
    rw [State.deliver_poll_attached l o ht hn hm]
    refine ⟨?_, State.afterPoll_rearms ha l due, State.afterPoll_offline ha l due, State.afterPoll_lost _ l i due⟩
    rintro payload rfl
    rfl
  case rearm =>
    intro candidate armed isLater
    have later_iff : later candidate s.partTime = true ↔ isLater := by rw [later_eq, decide_eq_true_eq]
    exact ⟨fun h => State.rearmPoll_onTime hn l due (later_iff.mpr h),
      fun h => State.rearmPoll_late hn l due fun g => h (later_iff.mp g)⟩
  case snapshot =>
    intro stored same
    have same_iff : x.record.map SnapshotRecord.payload = some payload ↔ same := Option.map_eq_some_iff
    have changed (h : ¬same) := State.storeSnapshot_changed hx (fun g => h (same_iff.mp g)) hn
    exact ⟨fun h => State.storeSnapshot_same hx (same_iff.mpr h), fun h hc => (changed h).trans (if_pos hc),
      fun h hc => (changed h).trans (if_neg (by simp [hc]))⟩

end Sys2Proof.Machine

/-! SUPPORT. Pending notices (R96 to R101): what the admission walk admits, and what a mark does. -/

namespace Sys2Proof.Machine

/-! ## Notices of other subjects -/

/-- A subject is eligible when no message of the queue has it, and its notice can be built (R98, R100). -/
theorem State.eligible_iff (s : State) (sub : Subject) : s.eligible sub = true ↔
    (∀ m ∈ s.outbound, m.subject ≠ some sub) ∧ ∃ n, s.buildNotice sub = some n := by
  simp [State.eligible, State.noticeQueued, Option.isSome_iff_exists]

theorem State.admitNotice_of_some {s : State} {sub : Subject} {n : Notice} (h : s.buildNotice sub = some n) :
    s.admitNotice sub = { s with
      outbound := s.outbound ++ [.notice n], linkErrors := if sub = .linkError then 0 else s.linkErrors } := by
  simp [State.admitNotice, h]

/-- The link error count is what the notice of LINK ERROR alone is built from, and only its admission moves the count. -/
theorem State.buildNotice_admitNotice {s : State} {sub other : Subject} (h : other ≠ sub) :
    (s.admitNotice sub).buildNotice other = s.buildNotice other := by
  have core := s.admitNotice_queueOnly sub
  cases other with
  | nodeState i => simp [State.buildNotice, core.liveNode]
  | change i => simp [State.buildNotice, core.liveNode, core.snapshot]
  | lineState l => simp [State.buildNotice, core.line]
  | linkError =>
    unfold State.admitNotice
    split
    · rfl
    · simp [State.buildNotice, Ne.symm h]

theorem State.noticeQueued_admitNotice {s : State} {sub other : Subject} (h : other ≠ sub) :
    (s.admitNotice sub).noticeQueued other = s.noticeQueued other := by
  cases hn : s.buildNotice sub with
  | none => simp [State.admitNotice, hn]
  | some n =>
    have other_subject : (Message.notice n).subject ≠ some other := by
      rw [(State.buildNotice_spec hn).1]
      exact fun e => h (Option.some.inj e).symm
    simp [State.admitNotice_of_some hn, State.noticeQueued, other_subject]

theorem State.eligible_admitNotice {s : State} {sub other : Subject} (h : other ≠ sub) :
    (s.admitNotice sub).eligible other = s.eligible other := by
  rw [State.eligible, State.eligible, State.noticeQueued_admitNotice h, State.buildNotice_admitNotice h]

/-! ## The admission walk -/

/-- The notices that a walk admits of these subjects: those of the eligible ones, in order, built from the state (R98, R100). -/
def State.admitted (s : State) (subs : List Subject) : List Message :=
  ((subs.filter s.eligible).filterMap s.buildNotice).map Message.notice

/-- The link error count after the admission of these subjects (R101). -/
def State.linkErrorsAfter (s : State) (subs : List Subject) : Byte :=
  if s.eligible .linkError = true ∧ Subject.linkError ∈ subs then 0 else s.linkErrors

theorem State.admitted_cons_of_not {s : State} {sub : Subject} (h : s.eligible sub ≠ true) (subs : List Subject) :
    s.admitted (sub :: subs) = s.admitted subs := by
  simp [State.admitted, h]

theorem State.linkErrorsAfter_cons_of_not {s : State} {sub : Subject} (h : s.eligible sub ≠ true) (subs : List Subject) :
    s.linkErrorsAfter (sub :: subs) = s.linkErrorsAfter subs := by
  have other : s.eligible .linkError = true → Subject.linkError ≠ sub := fun he e => h (e ▸ he)
  unfold State.linkErrorsAfter
  by_cases he : s.eligible .linkError = true
  · simp [he, other he]
  · simp [he]

/-- The admission of one subject, and then of others. -/
theorem State.admitted_cons {s : State} {sub : Subject} {n : Notice} (h : s.eligible sub = true) (hn : s.buildNotice sub = some n)
    {subs : List Subject} (hs : sub ∉ subs) :
    s.admitted (sub :: subs) = .notice n :: (s.admitNotice sub).admitted subs := by
  have others : ∀ x ∈ subs, x ≠ sub := fun x hx e => hs (e ▸ hx)
  have eligible : subs.filter (s.admitNotice sub).eligible = subs.filter s.eligible :=
    List.filter_congr fun x hx => State.eligible_admitNotice (others x hx)
  have built : (subs.filter s.eligible).filterMap (s.admitNotice sub).buildNotice = (subs.filter s.eligible).filterMap s.buildNotice :=
    List.filterMap_congr fun x hx => State.buildNotice_admitNotice (others x (List.mem_of_mem_filter hx))
  simp [State.admitted, h, hn, eligible, built]

theorem State.linkErrorsAfter_cons {s : State} {sub : Subject} {n : Notice} (h : s.eligible sub = true)
    (hn : s.buildNotice sub = some n) (subs : List Subject) :
    s.linkErrorsAfter (sub :: subs) = (s.admitNotice sub).linkErrorsAfter subs := by
  by_cases hl : sub = .linkError
  · subst hl
    simp [State.linkErrorsAfter, h, State.admitNotice_of_some hn]
  · have same : (s.admitNotice sub).linkErrors = s.linkErrors := by simp [State.admitNotice_of_some hn, hl]
    simp [State.linkErrorsAfter, State.eligible_admitNotice (Ne.symm hl), same, Ne.symm hl]

/-- What the walk does to the entries still to come, each there once: up to the first eligible one that does not fit, the eligible ones
are admitted and the others passed; from it on all stay (R98). -/
theorem walkFrom_admits (todo passed : List Subject) (s : State) (hd : todo.Nodup) : ∃ before after, todo = before ++ after ∧
    (∀ sub, after.head? = some sub → s.eligible sub = true ∧ (walkFrom todo passed s).freeSpace < sub.length) ∧
    walkFrom todo passed s = { s with
      outbound := s.outbound ++ s.admitted before
      notices := passed ++ (before.filter fun sub => !s.eligible sub) ++ after
      linkErrors := s.linkErrorsAfter before } := by
  induction todo generalizing passed s with
  | nil => exact ⟨[], [], rfl, nofun, by simp [walkFrom, State.admitted, State.linkErrorsAfter]⟩
  | cons sub rest ih =>
    obtain ⟨hsub, hrest⟩ := List.nodup_cons.mp hd
    unfold walkFrom
    by_cases he : s.eligible sub = true
    · obtain ⟨n, hn, -⟩ := State.eligible_spec he
      rw [if_pos he]
      by_cases hf : sub.length ≤ s.freeSpace
      · rw [if_pos hf]
        obtain ⟨before, after, rfl, hhead, hwalk⟩ := ih passed (s.admitNotice sub) hrest
        have others : ∀ x ∈ before ++ after, x ≠ sub := fun x hx e => hsub (e ▸ hx)
        have passes : (before.filter fun x => !(s.admitNotice sub).eligible x) = before.filter fun x => !s.eligible x :=
          List.filter_congr fun x hx => by rw [State.eligible_admitNotice (others x (by simp [hx]))]
        refine ⟨sub :: before, after, rfl, fun x hx => ?_, ?_⟩
        · obtain ⟨eligible, full⟩ := hhead x hx
          rw [State.eligible_admitNotice (others x (by simp [List.mem_of_mem_head? hx]))] at eligible
          exact ⟨eligible, full⟩
        · rw [hwalk, State.admitted_cons he hn fun h => hsub (by simp [h]), State.linkErrorsAfter_cons he hn, passes,
            List.filter_cons_of_neg (by simp [he]), State.admitNotice_of_some hn]
          simp
      · rw [if_neg hf]
        refine ⟨[], sub :: rest, rfl, ?_, by simp [State.admitted, State.linkErrorsAfter]⟩
        rintro x ⟨⟩
        exact ⟨he, Nat.not_le.mp hf⟩
    · rw [if_neg he]
      obtain ⟨before, after, rfl, hhead, hwalk⟩ := ih (passed ++ [sub]) s hrest
      refine ⟨sub :: before, after, rfl, hhead, ?_⟩
      rw [hwalk, State.admitted_cons_of_not he, State.linkErrorsAfter_cons_of_not he, List.filter_cons_of_pos (by simp [he])]
      simp

/-- Settles O46, by induction on the list: an admission changes neither what the later subjects, which are others, report, nor
whether they are eligible. -/
theorem walkAdmitsInOrder : Obligations.WalkAdmitsInOrder := by
  intro s hd
  obtain ⟨before, after, hsplit, hhead, hwalk⟩ := walkFrom_admits s.notices [] s hd
  obtain ⟨-, -, -, -, space⟩ := s.walk_posts
  exact ⟨before, after, hsplit, hhead, space, hwalk⟩

/-! ## Marks -/

theorem Message.length_bytes (m : Message) : m.bytes.length = m.length := by
  simp only [Message.bytes, Message.length, length_withCrc, List.length_cons]
  omega

/-- The parts of the test for the admission of a mark at once (R97, R99). -/
theorem State.mark_of_room {s : State} {sub : Subject} {n : Notice} (hn : s.buildNotice sub = some n) (he : s.notices = [])
    (hq : ∀ m ∈ s.outbound, m.subject ≠ some sub) (hf : (Message.notice n).length ≤ s.freeSpace) :
    s.mark sub = s.admitNotice sub := by
  have eligible : s.eligible sub = true := (s.eligible_iff sub).mpr ⟨hq, n, hn⟩
  rw [(State.buildNotice_spec hn).2] at hf
  simp [State.mark, he, eligible, hf]

theorem State.mark_of_no_room {s : State} {sub : Subject} {n : Notice} (hn : s.buildNotice sub = some n) (hs : sub ∉ s.notices)
    (h : ¬(s.notices = [] ∧ (∀ m ∈ s.outbound, m.subject ≠ some sub) ∧ (Message.notice n).length ≤ s.freeSpace)) :
    s.mark sub = { s with notices := s.notices ++ [sub] } := by
  rw [(State.buildNotice_spec hn).2] at h
  rw [State.mark, if_neg hs, if_neg fun ⟨he, hel, hf⟩ => h ⟨he, ((s.eligible_iff sub).mp hel).1, hf⟩]

/-- Settles O47: a notice by its subject, and the three branches of a mark. -/
theorem markMergesAdmitsOrJoins : Obligations.MarkMergesAdmitsOrJoins := by
  refine ⟨fun s i => ⟨fun h => ?free, fun n hn => ⟨?nodeState, fun x hx => ?change⟩⟩, fun _ _ => rfl, fun _ => rfl,
    fun s sub => ⟨s.eligible_iff sub, fun n hn => ?length⟩, fun s sub n hn => ⟨fun h => ?merged, fun _ h => ?admitted, fun hs h => ?joins⟩⟩
  case free => simp [State.buildNotice, h]
  case nodeState => simp [State.buildNotice, hn]
  case change => simp [State.buildNotice, hn, hx]
  case length =>
    obtain ⟨subject, length⟩ := State.buildNotice_spec hn
    exact ⟨subject, by rw [Message.length_bytes, length]⟩
  case merged => exact if_pos h
  case admitted =>
    obtain ⟨he, hq, hf⟩ := h
    rw [State.mark_of_room hn he hq hf, State.admitNotice_of_some hn]
  case joins => exact State.mark_of_no_room hn hs h

end Sys2Proof.Machine

/-! SUPPORT. READ SNAPSHOT (R93 to R95). -/

namespace Sys2Proof.Machine

theorem exec_readSnapshot_ready {s : State} {id : SlotId} {rq : Request} {i : Index} (h : s.ready (some .readSnapshot) id rq)
    (hb : indexBody rq.body = some i) : exec .readSnapshot s = .next ((s.accept id rq).readSnapshot rq i) := by
  show Host.Outcome.next (s.take _ _) = _
  rw [State.take_of_ready h, hb]

/-- The reply of a READ SNAPSHOT is queued under its 61 bytes, and may be shorter (R158, R164). -/
theorem State.answer_of_readSnapshot (u : State) {rq : Request} (hk : requestKindOf rq.kind = some .readSnapshot) (status : Status)
    (data : List Byte) : u.answer rq status data = u.queueReply 61 { kind := 0xB0, tag := rq.tag, status := status, data := data } := by
  rw [State.answer, reservation_of_kind hk, kind_of_requestKindOf hk]
  rfl

theorem State.readSnapshot_of_none {s : State} {i : Index} (h : s.liveNode i = none) (rq : Request) :
    s.readSnapshot rq i = s.answer rq .noSuchNode [byteOf i] := by
  rw [State.readSnapshot, h]

theorem State.readSnapshot_of_live {s : State} {i : Index} {n : Node} {x : Snapshot} (h : s.liveNode i = some n)
    (hx : s.snapshot i = some x) (rq : Request) :
    s.readSnapshot rq i = s.answer rq .ok (snapshotData i n s.partTime x) := by
  simp [State.readSnapshot, h, hx]

theorem snapshotData_of_none {x : Snapshot} (h : x.record = none) (i : Index) (n : Node) (now : Word) :
    snapshotData i n now x = [byteOf i, 0, 0, 0, 0, 0, 0] := by
  rw [snapshotData, h]
  rfl

theorem SnapshotRecord.freshness_code (r : SnapshotRecord) (now : Word) (n : Node) : (r.freshness now n).code =
    if (n.state = .online ∨ n.state = .suspect) ∧ (now - r.captured).toNat ≤ 4 * n.config.period.toNat ∧ r.agedOut = false
    then 1 else 2 := by
  unfold SnapshotRecord.freshness SnapshotRecord.age
  simp only [and_comm (a := r.agedOut = false)]
  split <;> rfl

/-- Settles O19: the three replies, each under the reservation of 61 bytes. -/
theorem readSnapshotReports : Obligations.ReadSnapshotReports := by
  intro s id rq i hready hbody
  have hkind := hready.2.2.1
  have live := s.liveNode_accept id rq i
  rw [exec_readSnapshot_ready hready hbody]
  refine ⟨fun h => ?_, fun n x hn hx => ?_⟩
  · rw [State.readSnapshot_of_none (live.trans h), State.answer_of_readSnapshot _ hkind]
  · rw [State.readSnapshot_of_live (live.trans hn) ((s.snapshot_accept id rq i).trans hx), State.answer_of_readSnapshot _ hkind,
      s.accept_partTime]
    refine ⟨fun h => by rw [snapshotData_of_none h], fun r hr => ?_⟩
    rw [snapshotData, hr]
    simp only [r.freshness_code, SnapshotRecord.reportedAge, SnapshotRecord.age]

end Sys2Proof.Machine
/-! SUPPORT. What keeps notices and tags single and the host link in order (laws L5, L6): the operations on messages, tags and lines,
with the tags whose replies are still to be queued between them. -/

namespace Sys2Proof.Machine

/-! ## The tags that the registry holds -/

/-- The registry holds each tag once: those of the outstanding requests, and those that have left their places while their replies
are still to be queued (law L6 in the middle of an operation, R157). -/
structure State.Owes (s : State) (owed : List Byte) : Prop where
  once : s.tags.Nodup
  registered : s.tags.Perm (owed ++ s.outstanding)

/-- A line that is not busy has no record (R56). -/
def Line.Quiet (x : Line) : Prop := x.state.busy = false → x.transaction = none

/-- Both lines have a record only while they are busy. -/
def State.Quiet (s : State) : Prop := ∀ l, (s.line l).Quiet

theorem State.LinesInOrder.quiet {s : State} (h : s.LinesInOrder) (hs : s.resetting = none) : s.Quiet :=
  fun l => (h hs l).record_absent

/-- An operation keeps notices single (L5) and tags distinct (R157); and, a line having a record only while it is busy, it keeps the
registry in agreement with the outstanding requests: from a state in which the replies to the tags `a` are still to be queued, it comes to
one in which those to the tags `b` are. -/
structure State.KeepsSingle (s t : State) (a b : List Byte := []) : Prop where
  single : s.NoticesSingle → t.NoticesSingle
  distinct : s.tags.Nodup → t.tags.Nodup
  quiet : s.Quiet → t.Quiet
  owes : s.Quiet → ∀ owed, s.Owes (a ++ owed) → t.Owes (b ++ owed)

theorem State.KeepsSingle.refl (s : State) (a : List Byte) : s.KeepsSingle s a a := ⟨id, id, id, fun _ _ h => h⟩

theorem State.KeepsSingle.trans {s t u : State} {a b c : List Byte} (h : s.KeepsSingle t a b) (g : t.KeepsSingle u b c) :
    s.KeepsSingle u a c :=
  ⟨g.single ∘ h.single, g.distinct ∘ h.distinct, g.quiet ∘ h.quiet, fun hq owed ho => g.owes (h.quiet hq) owed (h.owes hq owed ho)⟩

/-- An operation of the part itself: besides `KeepsSingle`, it leaves the request slots and the link alone, and only appends to the
outbound queue. -/
structure State.Works (s t : State) (a b : List Byte := []) : Prop extends s.KeepsSingle t a b where
  slots : ∀ id, t.slot id = s.slot id
  slotOrder : t.slotOrder = s.slotOrder
  link : t.link = s.link
  outbound : s.outbound <+: t.outbound

theorem State.Works.refl (s : State) (a : List Byte) : s.Works s a a := ⟨.refl s a, fun _ => rfl, rfl, rfl, List.prefix_rfl⟩

theorem State.Works.trans {s t u : State} {a b c : List Byte} (h : s.Works t a b) (g : t.Works u b c) : s.Works u a c :=
  ⟨h.toKeepsSingle.trans g.toKeepsSingle, fun id => (g.slots id).trans (h.slots id), g.slotOrder.trans h.slotOrder,
    g.link.trans h.link, h.outbound.trans g.outbound⟩

/-- Other replies that are still to be queued stay so. -/
theorem State.Works.frame {s t : State} {a b : List Byte} (h : s.Works t a b) (c : List Byte) : s.Works t (a ++ c) (b ++ c) := by
  refine { h with owes := fun hq owed ho => ?_ }
  rw [List.append_assoc] at ho ⊢
  exact h.owes hq (c ++ owed) ho

/-- The link stays in order while nothing but messages at the tail of the queue changes for it. -/
theorem State.Works.linkInOrder {s t : State} {a b : List Byte} (h : s.Works t a b) (hs : s.LinkInOrder) : t.LinkInOrder where
  filling id := by rw [h.slots, h.link]; exact hs.filling id
  stored id := by rw [h.slots, h.link]; exact hs.stored id
  full id := by rw [h.slots, h.slotOrder]; exact hs.full id
  once := h.slotOrder ▸ hs.once
  accepted id := by rw [h.slots]; exact hs.accepted id
  fixed message sent := by
    rw [h.link]
    intro hl
    obtain ⟨ms, hm⟩ := h.outbound
    rw [← hm, List.head?_append_of_ne_nil, hs.fixed message sent hl]
    intro he
    have := hs.fixed message sent hl
    rw [he] at this
    cases this

/-! ## Fields that no law reads -/

theorem State.outstanding_congr {s t : State} (hl : ∀ l, (t.line l).tags = (s.line l).tags) (hj : t.storeJob = s.storeJob) :
    t.outstanding = s.outstanding := by
  have ha : t.lineA.tags = s.lineA.tags := hl .a
  have hb : t.lineB.tags = s.lineB.tags := hl .b
  rw [State.outstanding, ha, hb, hj, State.outstanding]

/-- An update of fields other than the tags, the lines and the store job, which keeps notices single. -/
theorem State.KeepsSingle.of_fields {s t : State} {a : List Byte} (hn : s.NoticesSingle → t.NoticesSingle) (ht : t.tags = s.tags)
    (ha : t.lineA = s.lineA) (hb : t.lineB = s.lineB) (hj : t.storeJob = s.storeJob) : s.KeepsSingle t a a := by
  have line := State.line_congr ha hb
  refine ⟨hn, fun h => ht ▸ h, fun h l => line l ▸ h l, fun _ owed h => ⟨ht ▸ h.once, ?_⟩⟩
  rw [ht, State.outstanding_congr (fun l => by rw [line l]) hj]
  exact h.registered

/-- An update of fields that neither these laws nor the link read. -/
theorem State.Works.of_fields {s t : State} {a : List Byte} (h0 : t.slot0 = s.slot0) (h1 : t.slot1 = s.slot1) (ho : t.slotOrder = s.slotOrder)
    (hl : t.link = s.link) (hq : t.outbound = s.outbound) (hn : t.notices = s.notices) (ht : t.tags = s.tags)
    (ha : t.lineA = s.lineA) (hb : t.lineB = s.lineB) (hj : t.storeJob = s.storeJob) : s.Works t a a :=
  ⟨.of_fields (fun h => ⟨hn ▸ h.pending_once, hq ▸ h.queued_once⟩) ht ha hb hj, fun id => by cases id <;> assumption, ho, hl,
    hq ▸ List.prefix_rfl⟩

theorem State.setNode_works (s : State) (i : Index) (m : Option Node) : s.Works (s.setNode i m) :=
  .of_fields rfl rfl rfl rfl rfl rfl rfl rfl rfl rfl

theorem State.setSnapshot_works (s : State) (i : Index) (x : Option Snapshot) : s.Works (s.setSnapshot i x) :=
  .of_fields rfl rfl rfl rfl rfl rfl rfl rfl rfl rfl

theorem State.reportChange_works (s : State) : s.Works s.reportChange := .of_fields rfl rfl rfl rfl rfl rfl rfl rfl rfl rfl

theorem State.setStoreSlot_works (s : State) (id : SlotId) (x : StoreSlot) : s.Works (s.setStoreSlot id x) := by
  cases id <;> exact .of_fields rfl rfl rfl rfl rfl rfl rfl rfl rfl rfl

/-! ## Messages and tags -/

/-- What posts messages and leaves the registry alone. -/
theorem Posts.works {s t : State} {rs : List Reply} {m : Option Subject} (h : Posts s t rs m) (ht : t.tags = s.tags) : s.Works t := by
  obtain ⟨ms, hm, -⟩ := h.appended
  refine ⟨.of_fields h.single ht h.core.lineA h.core.lineB h.core.storeJob, fun id => ?_, h.core.slotOrder, h.core.link, ⟨ms, hm.symm⟩⟩
  cases id
  · exact h.core.slot0
  · exact h.core.slot1

theorem State.mark_works (s : State) (sub : Subject) : s.Works (s.mark sub) := by
  obtain ⟨posts, -, -, tags, -⟩ := s.mark_posts sub
  exact posts.works tags

theorem State.walk_works (s : State) : s.Works s.walk := by
  obtain ⟨posts, -, -, tags, -⟩ := s.walk_posts
  exact posts.works tags

theorem State.queueReply_works (s : State) (reservation : Nat) (r : Reply) : s.Works (s.queueReply reservation r) := by
  obtain ⟨posts, -, -, tags, -⟩ := s.queueReply_posts reservation r
  exact posts.works tags

theorem State.answer_works (s : State) (rq : Request) (status : Status) (data : List Byte) : s.Works (s.answer rq status data) :=
  s.queueReply_works _ _

theorem State.rejectFrame_works (s : State) : s.Works s.rejectFrame :=
  State.Works.trans (t := { s with linkErrors := countLinkError s.linkErrors })
    (.of_fields rfl rfl rfl rfl rfl rfl rfl rfl rfl rfl) (State.mark_works _ _)

/-- The list of a withdrawal holds a part of what was pending. -/
theorem State.without_works (s : State) (i : Index) : s.Works (s.without i) :=
  ⟨.of_fields (fun h => ⟨h.pending_once.filter _, h.queued_once⟩) rfl rfl rfl rfl, fun id => by cases id <;> rfl, rfl, rfl, List.prefix_rfl⟩

theorem State.withdraw_works (s : State) (i : Index) : s.Works (s.withdraw i) := (s.without_works i).trans (State.walk_works _)

/-- A new tag joins the registry before its request stands anywhere. -/
theorem State.addTag_works {s : State} {tag : Byte} (h : tag ∉ s.tags) : s.Works (s.addTag tag) [] [tag] := by
  have once (hs : s.tags.Nodup) : (s.tags ++ [tag]).Nodup := List.nodup_append_comm.mp (List.nodup_cons.mpr ⟨h, hs⟩)
  refine ⟨⟨fun hs => ⟨hs.pending_once, hs.queued_once⟩, once, id, fun _ owed ho => ⟨once ho.once, ?_⟩⟩, fun id => by cases id <;> rfl, rfl,
    rfl, List.prefix_rfl⟩
  exact (List.perm_append_singleton _ _).trans (ho.registered.cons tag)

/-- A tag leaves the registry with its reply, and was there once. -/
theorem State.dropTag_works (s : State) (tag : Byte) : s.Works (s.dropTag tag) [tag] [] := by
  refine ⟨⟨fun hs => ⟨hs.pending_once, hs.queued_once⟩, fun hs => hs.filter _, id, fun _ owed ho => ⟨ho.once.filter _, ?_⟩⟩,
    fun id => by cases id <;> rfl, rfl, rfl, List.prefix_rfl⟩
  have erased : (s.dropTag tag).tags = s.tags.erase tag := by
    rw [ho.once.erase_eq_filter tag, State.dropTag_tags]
    exact List.filter_congr fun x _ => Bool.eq_iff_iff.mpr (by simp)
  have remains := ho.registered.erase tag
  rw [List.singleton_append, List.cons_append, List.erase_cons_head] at remains
  rw [erased]
  exact remains

/-- The deferred reply to a tag is queued (R157). -/
theorem State.deferredReply_works (s : State) (tag : Byte) (reservation : Nat) (r : Reply) :
    s.Works ((s.dropTag tag).queueReply reservation r) [tag] [] := (s.dropTag_works tag).trans (State.queueReply_works _ _ _)

theorem State.replyEntry_works (s : State) (l : LineId) (status : Status) (e : DemandEntry) :
    s.Works (s.replyEntry l status e) [e.tag] [] := s.deferredReply_works _ _ _

theorem replyEntries_works (es : List DemandEntry) (l : LineId) (status : Status) (s : State) :
    s.Works (es.foldl (fun s e => s.replyEntry l status e) s) (es.map DemandEntry.tag) [] := by
  induction es generalizing s with
  | nil => exact .refl s []
  | cons e es ih => exact ((s.replyEntry_works l status e).frame (es.map DemandEntry.tag)).trans (ih _)

/-! ## Lines and the store job -/

/-- A line is replaced, some of its tags becoming owed, or owed tags becoming its own. -/
theorem State.updLine_works {s : State} {l : LineId} {f : Line → Line} {a b : List Byte}
    (ht : (s.line l).Quiet → (a ++ (s.line l).tags).Perm (b ++ (f (s.line l)).tags))
    (hq : (s.line l).Quiet → (f (s.line l)).Quiet) : s.Works (s.updLine l f) a b := by
  refine ⟨⟨fun h => ⟨by simpa using h.pending_once, by simpa using h.queued_once⟩, fun h => by simpa using h, fun h k => ?_,
    fun hquiet owed h => ⟨by simpa using h.once, ?_⟩⟩, fun id => by cases id <;> simp [State.slot], by simp, by simp, by simp⟩
  · by_cases hk : k = l
    · subst hk; rw [State.line_updLine_same]; exact hq (h k)
    · rw [State.line_updLine_other s f hk]; exact h k
  · have counts := List.perm_iff_count.mp (ht (hquiet l))
    rw [State.updLine_tags]
    refine h.registered.trans (List.perm_iff_count.mpr fun tag => ?_)
    have moved := counts tag
    cases l <;> simp only [State.outstanding, State.updLine, State.setLine, State.line, List.count_append] at moved ⊢ <;> omega

/-- A line whose record stays, or that comes to have one in a busy state, or none. -/
theorem Line.Quiet.of_record {x y : Line}
    (h : y.state = x.state ∧ y.transaction = x.transaction ∨ y.state.busy = true ∨ y.transaction = none) (hx : x.Quiet) : y.Quiet := by
  rcases h with ⟨hs, ht⟩ | hb | ht
  · rw [Line.Quiet, hs, ht]; exact hx
  · exact fun hn => absurd (hb.symm.trans hn) nofun
  · exact fun _ => ht

/-- The tags of what waits on a line: its demand queue and its scan job, the record aside. -/
def Line.waitingTags (x : Line) : List Byte := x.demandQueue.map DemandEntry.tag ++ (x.scan.map ScanJob.tag).toList

/-- The tag of the demand or broadcast in flight on a line. -/
def Line.flightTag (x : Line) : List Byte := (x.transaction.bind fun t => t.kind.tag).toList

theorem Line.tags_perm (x : Line) : x.tags.Perm (x.flightTag ++ x.waitingTags) :=
  List.perm_iff_count.mpr fun tag => by simp only [Line.tags, Line.flightTag, Line.waitingTags, List.count_append]; omega

theorem Line.flightTag_of_some {x : Line} {t : Transaction} (h : x.transaction = some t) : x.flightTag = t.kind.tag.toList := by
  rw [Line.flightTag, h]
  rfl

theorem Line.flightTag_of_none {x : Line} (h : x.transaction = none) : x.flightTag = [] := by
  rw [Line.flightTag, h]
  rfl

/-- The tags of a line, by those of its record and those that wait. -/
theorem Line.tags_move {x y : Line} {a b : List Byte}
    (h : (a ++ (x.flightTag ++ x.waitingTags)).Perm (b ++ (y.flightTag ++ y.waitingTags))) : (a ++ x.tags).Perm (b ++ y.tags) :=
  ((x.tags_perm.append_left a).trans h).trans (y.tags_perm.append_left b).symm

/-- A change of a line that leaves its state and its work alone. -/
theorem State.updLine_works_of_same {s : State} {l : LineId} {f : Line → Line} (hs : (f (s.line l)).state = (s.line l).state)
    (ht : (f (s.line l)).transaction = (s.line l).transaction) (hd : (f (s.line l)).demandQueue = (s.line l).demandQueue)
    (hj : (f (s.line l)).scan = (s.line l).scan) : s.Works (s.updLine l f) :=
  State.updLine_works (fun _ => by rw [Line.tags, Line.tags, ht, hd, hj]) (.of_record (.inl ⟨hs, ht⟩))

/-- A change of what waits on a line alone. -/
theorem State.updLine_works_of_waiting {s : State} {l : LineId} {f : Line → Line} {a b : List Byte}
    (hs : (f (s.line l)).state = (s.line l).state) (ht : (f (s.line l)).transaction = (s.line l).transaction)
    (hw : (a ++ (s.line l).waitingTags).Perm (b ++ (f (s.line l)).waitingTags)) : s.Works (s.updLine l f) a b := by
  refine State.updLine_works (fun _ => Line.tags_move (List.perm_iff_count.mpr fun tag => ?_)) (.of_record (.inl ⟨hs, ht⟩))
  have moved := List.perm_iff_count.mp hw tag
  simp only [Line.flightTag, ht, List.count_append] at moved ⊢
  omega

/-- A change of the record of a line alone, to one in a busy state or to none. -/
theorem State.updLine_works_of_record {s : State} {l : LineId} {f : Line → Line} {a b : List Byte}
    (hb : (f (s.line l)).state.busy = true ∨ (f (s.line l)).transaction = none)
    (hd : (f (s.line l)).demandQueue = (s.line l).demandQueue) (hj : (f (s.line l)).scan = (s.line l).scan)
    (hf : (s.line l).Quiet → (a ++ (s.line l).flightTag).Perm (b ++ (f (s.line l)).flightTag)) : s.Works (s.updLine l f) a b := by
  refine State.updLine_works (fun h => Line.tags_move ?_) (.of_record (.inr hb))
  rw [← List.append_assoc, ← List.append_assoc, Line.waitingTags, Line.waitingTags, hd, hj]
  exact (hf h).append_right _

/-- The store job is replaced, with fields that no law here reads. -/
theorem State.setJob_works {s t : State} {a b : List Byte} (h0 : t.slot0 = s.slot0) (h1 : t.slot1 = s.slot1)
    (ho : t.slotOrder = s.slotOrder) (hl : t.link = s.link) (hq : t.outbound = s.outbound) (hn : t.notices = s.notices)
    (ht : t.tags = s.tags) (ha : t.lineA = s.lineA) (hb : t.lineB = s.lineB)
    (hj : (a ++ (s.storeJob.map StoreJob.tag).toList).Perm (b ++ (t.storeJob.map StoreJob.tag).toList)) : s.Works t a b := by
  refine ⟨⟨fun h => ⟨hn ▸ h.pending_once, hq ▸ h.queued_once⟩, fun h => ht ▸ h, fun h l => State.line_congr ha hb l ▸ h l,
    fun _ owed h => ⟨ht ▸ h.once, ?_⟩⟩, fun id => by cases id <;> assumption, ho, hl, hq ▸ List.prefix_rfl⟩
  have counts := List.perm_iff_count.mp hj
  rw [ht]
  refine h.registered.trans (List.perm_iff_count.mpr fun tag => ?_)
  have moved := counts tag
  simp only [State.outstanding, ha, hb, List.count_append] at moved ⊢
  omega

end Sys2Proof.Machine
/-! SUPPORT. Outcomes, the arbiter and the Line Engine keep notices and tags single: the tag of a request leaves the place it stands in
as its reply is queued (laws L5, L6). -/

namespace Sys2Proof.Machine

/-! ## Purges, flushes and the end of a scan job -/

theorem State.purge_works (s : State) (l : LineId) (i : Index) (status : Status) : s.Works (s.purge l i status) := by
  refine State.Works.trans (b := ((s.line l).demandQueue.filter fun e => e.node = some i).map DemandEntry.tag)
    (State.updLine_works_of_waiting rfl rfl ?_) (replyEntries_works _ l status _)
  have parts := (List.filter_append_perm (fun e : DemandEntry => decide (e.node = some i)) (s.line l).demandQueue).symm
  rw [List.nil_append, Line.waitingTags, Line.waitingTags, ← List.append_assoc]
  refine List.Perm.append_right _ ?_
  simpa using parts.map DemandEntry.tag

theorem State.flush_works (s : State) (l : LineId) (status : Status) : s.Works (s.flush l status) :=
  State.Works.trans (b := (s.line l).demandQueue.map DemandEntry.tag) (State.updLine_works_of_waiting rfl rfl (.refl _))
    (replyEntries_works _ l status _)

theorem State.endScan_works (s : State) (l : LineId) (status : Status) : s.Works (s.endScan l status) := by
  unfold State.endScan
  split
  · exact .refl s []
  · rename_i j hj
    refine State.Works.trans (b := [j.tag]) (State.updLine_works_of_waiting rfl rfl ?_) (State.deferredReply_works _ _ _ _)
    rw [Line.waitingTags, hj, List.nil_append]
    exact (List.perm_append_singleton _ _).trans (by simp [Line.waitingTags])

/-! ## Outcomes -/

theorem State.makeDue_works (s : State) (l : LineId) (i : Index) : s.Works (s.makeDue l i) :=
  State.updLine_works_of_same rfl rfl rfl rfl

theorem State.armRecovery_works (s : State) (l : LineId) (i : Index) : s.Works (s.armRecovery l i) :=
  State.updLine_works_of_same rfl rfl rfl rfl

theorem State.withhold_works (s : State) (l : LineId) (i : Index) (m : Node) (status : Status) : s.Works (s.withhold l i m status) :=
  ((s.setNode_works i _).trans (State.updLine_works_of_same rfl rfl rfl rfl)).trans (State.purge_works _ l i status)

theorem State.goOffline_works (s : State) (l : LineId) (i : Index) (n : Node) : s.Works (s.goOffline l i n) := by
  rw [State.goOffline_eq]
  exact ((s.withhold_works l i _ _).trans (State.mark_works _ _)).trans (State.armRecovery_works _ l i)

theorem State.applyService_works (s : State) (l : LineId) (i : Index) (n : Node) (o : FieldOutcome) :
    s.Works (s.applyService l i n o) := by
  have answered (k : Node) : s.Works
      (if n.state = .new then (s.setNode i (some k)).mark (.nodeState i) else s.setNode i (some k)) := by
    split
    · exact (s.setNode_works i _).trans (State.mark_works _ _)
    · exact s.setNode_works i _
  cases o with
  | ok content => exact answered n.answeredOk
  | exception reason => exact answered (n.answeredException reason)
  | collision | lineOff | lineFault => exact s.setNode_works i _
  | timeout | corrupt =>
    rw [State.applyService_failed s l i n (by simp)]
    split
    · exact s.setNode_works i _
    · exact s.goOffline_works l i n

theorem State.comeBack_works (s : State) (l : LineId) (i : Index) (n : Node) : s.Works (s.comeBack l i n) := by
  rw [State.comeBack_eq]
  exact ((s.setNode_works i _).trans (State.mark_works _ _)).trans (State.updLine_works_of_same rfl rfl rfl rfl)

theorem State.applyProbe_works (s : State) (l : LineId) (i : Index) (n : Node) (o : FieldOutcome) :
    s.Works (s.applyProbe l i n o) := by
  cases o with
  | ok content => exact s.comeBack_works l i n.answeredOk
  | exception reason => exact s.comeBack_works l i (n.answeredException reason)
  | timeout | corrupt | collision | lineOff | lineFault => exact (s.setNode_works i _).trans (State.armRecovery_works _ l i)

theorem State.applyOutcome_works (s : State) (l : LineId) (i : Index) (probe : Bool) (o : FieldOutcome) :
    s.Works (s.applyOutcome l i probe o) := by
  unfold State.applyOutcome
  split
  · exact .refl s []
  · split
    · exact .refl s []
    · exact s.setNode_works i _
    · split
      · exact s.applyProbe_works l i _ o
      · exact s.applyService_works l i _ o

theorem State.rearmPoll_works (s : State) (l : LineId) (i : Index) (due : Word) : s.Works (s.rearmPoll l i due) := by
  have armed (w : Option Word) : s.Works (s.updLine l fun x => x.setPollTimer i w) := State.updLine_works_of_same rfl rfl rfl rfl
  unfold State.rearmPoll
  split
  · exact .refl s []
  · dsimp only
    split
    · exact armed _
    · exact (armed _).trans (State.setNode_works _ i _)

theorem State.storeSnapshot_works (s : State) (i : Index) (payload : List Byte) : s.Works (s.storeSnapshot i payload) := by
  obtain ⟨x, h | h⟩ := s.storeSnapshot_cases i payload <;> rw [h]
  · exact s.setSnapshot_works i _
  · exact (s.setSnapshot_works i _).trans (State.mark_works _ _)

theorem State.putBackPoll_works (s : State) (l : LineId) (i : Index) (due : Word) : s.Works (s.putBackPoll l i due) :=
  State.updLine_works_of_same rfl rfl rfl rfl

theorem State.afterPoll_works (s : State) (l : LineId) (i : Index) (due : Word) (o : FieldOutcome) :
    s.Works (s.afterPoll l i due o) := by
  have unlessOffline : s.Works (if (s.node i).map Node.state = some .offline then s else s.rearmPoll l i due) := by
    split
    · exact .refl s []
    · exact s.rearmPoll_works l i due
  cases o with
  | ok payload => exact (s.storeSnapshot_works i payload).trans (State.rearmPoll_works _ l i due)
  | exception | collision => exact s.rearmPoll_works l i due
  | timeout | corrupt => exact unlessOffline
  | lineOff | lineFault => exact s.putBackPoll_works l i due

/-- What is recorded of a probe leaves the job its tag (R128). -/
theorem ScanJob.record_tag (j : ScanJob) (address : Byte) (o : FieldOutcome) : (j.record address o).tag = j.tag := by
  cases o <;> rfl

/-- A scan job is replaced by one with its tag. -/
theorem State.setScan_works {s : State} {l : LineId} {j k : ScanJob} (hj : (s.line l).scan = some j) (hk : k.tag = j.tag) :
    s.Works (s.updLine l fun x => { x with scan := some k }) :=
  State.updLine_works_of_waiting rfl rfl (by simp [Line.waitingTags, hj, hk])

theorem State.scanResult_works (s : State) (l : LineId) (address : Byte) (o : FieldOutcome) :
    s.Works (s.scanResult l address o) := by
  cases hj : (s.line l).scan with
  | none => rw [State.scanResult_of_none hj]; exact .refl s []
  | some j =>
    have recorded := State.setScan_works hj (j.record_tag address o)
    rw [State.scanResult_of_some hj]
    split
    · exact recorded
    · cases (j.record address o).ending with
      | none => exact recorded
      | some status => exact recorded.trans (State.endScan_works _ l status)

/-- The delivery of an outcome queues the reply to the tag of the transaction, if it has one (R44, R157). -/
theorem State.deliver_works (s : State) (l : LineId) (t : Transaction) (o : FieldOutcome) :
    s.Works (s.deliver l t o) t.kind.tag.toList [] := by
  cases ht : t.kind with
  | poll i due =>
    unfold State.deliver
    rw [ht]
    dsimp only
    split
    · exact (s.applyOutcome_works l i false o).trans (State.afterPoll_works _ l i due o)
    · exact s.applyOutcome_works l i false o
  | recoveryProbe i => rw [State.deliver_recoveryProbe _ _ _ ht]; exact s.applyOutcome_works l i true o
  | demand i tag reserved =>
    rw [State.deliver_demand _ _ _ ht]
    exact (s.deferredReply_works tag reserved _).trans (State.applyOutcome_works _ l i false o)
  | broadcast tag reserved => rw [State.deliver_broadcast _ _ _ ht]; exact s.deferredReply_works tag reserved _
  | scanProbe => rw [State.deliver_scanProbe _ _ ht]; exact s.scanResult_works l _ o

/-! ## The arbiter -/

/-- A new record takes the place of none on an IDLE line, and has the tag that leaves the waiting ones, if there is one. -/
theorem State.startAttempt_works {s : State} {l : LineId} {f : Line → Line} {g : Line → Transaction} (hi : (s.line l).state = .idle)
    (hw : (s.line l).waitingTags.Perm ((g (s.line l)).kind.tag.toList ++ (f (s.line l)).waitingTags)) :
    s.Works (s.updLine l fun x => (f x).startAttempt (g x)) := by
  refine State.updLine_works (fun h => Line.tags_move ?_) (.of_record (.inr (.inl rfl)))
  rw [Line.flightTag_of_none (h (by rw [hi]; rfl))]
  exact hw

section
variable {s : State} {l : LineId} (hi : (s.line l).state = .idle)
include hi

theorem State.startOnNode_works {i : Index} {n : Node} {kind : TransactionKind} {op : Operation} {allowed : Nat} {leave : Line → Line}
    (hw : (s.line l).waitingTags.Perm (kind.tag.toList ++ (leave (s.line l)).waitingTags)) :
    s.Works (s.startOnNode l i n kind op allowed leave) := by
  unfold State.startOnNode
  extract_lets t
  refine (s.setNode_works i _).trans (State.startAttempt_works (f := leave) (g := fun _ => t) ?_ ?_)
  · rwa [State.line_setNode]
  · rwa [State.line_setNode]

theorem State.startOnLine_works {kind : TransactionKind} {target : Byte} {op : Operation} {timeout : Option Byte}
    {leave : Line → Line} (hw : (s.line l).waitingTags.Perm (kind.tag.toList ++ (leave (s.line l)).waitingTags)) :
    s.Works (s.startOnLine l kind target op timeout leave) := State.startAttempt_works hi hw

theorem State.startDemand_works {e : DemandEntry} {rest : List DemandEntry} (hq : (s.line l).demandQueue = e :: rest) :
    s.Works (s.startDemand l e rest) := by
  have leaves : (s.line l).waitingTags = e.tag :: Line.waitingTags { s.line l with demandQueue := rest } := by
    simp [Line.waitingTags, hq]
  unfold State.startDemand
  dsimp only
  split
  · exact State.startOnLine_works hi (leaves ▸ .refl _)
  · split
    · exact .refl s []
    · exact State.startOnNode_works hi (leaves ▸ .refl _)

theorem State.startDue_works (e : DueEntry) (rest : List DueEntry) : s.Works (s.startDue l e rest) := by
  unfold State.startDue
  dsimp only
  split
  · exact .refl s []
  · split
    · exact State.startOnNode_works hi (.refl _)
    · split
      · exact .refl s []
      · exact State.startOnNode_works hi (.refl _)

theorem State.startScanProbe_works {j : ScanJob} (hj : (s.line l).scan = some j) : s.Works (s.startScanProbe l j) := by
  unfold State.startScanProbe
  extract_lets next
  split
  · exact (State.setScan_works (k := { j with next := next }) hj rfl).trans (State.endScan_works _ l _)
  · exact State.startOnLine_works hi (by simp [Line.waitingTags, hj, TransactionKind.tag])

end

theorem State.askArbiter_works (s : State) (l : LineId) : s.Works (s.askArbiter l) := by
  unfold State.askArbiter State.choose
  split
  · rename_i hi
    split
    · exact State.startDemand_works hi ‹_›
    · split
      · exact State.startDue_works hi _ _
      · exact State.startDemand_works hi ‹_›
    · exact State.startDue_works hi _ _
    · exact State.startScanProbe_works hi ‹_›
    · exact .refl s []
  · exact .refl s []

theorem State.makeDueNow_works (s : State) (l : LineId) (i : Index) : s.Works (s.makeDueNow l i) :=
  (s.makeDue_works l i).trans (State.askArbiter_works _ l)

theorem State.timerExpires_works (s : State) (l : LineId) (i : Index) (kind : DueKind) (due : Word) :
    s.Works (s.timerExpires l i kind due) := by
  refine State.Works.trans (State.updLine_works_of_same ?_ ?_ ?_ ?_) (State.askArbiter_works _ l) <;> cases kind <;> rfl

/-! ## The end of an attempt and of a transaction -/

theorem State.countFlight_works (s : State) (k : TransactionKind) (o : FieldOutcome) : s.Works (s.countFlight k o) := by
  unfold State.countFlight
  split
  · rename_i i _
    rcases s.countAttempt_cases i o with h | ⟨n, c, -, -, h⟩ <;> rw [h]
    · exact .refl s []
    · exact s.setNode_works i _
  · exact .refl s []

theorem State.endAttempt_works (s : State) (l : LineId) (o : FieldOutcome) (kind : GuardKind) : s.Works (s.endAttempt l o kind) := by
  cases ht : (s.line l).transaction with
  | none =>
    unfold State.endAttempt
    rw [ht]
    exact .refl s []
  | some t =>
    have flight := Line.flightTag_of_some ht
    rw [State.endAttempt_of_some ht]
    split
    · rename_i hr
      refine State.Works.trans (State.updLine_works_of_record (.inl rfl) rfl rfl fun _ => ?_) (State.countFlight_works _ _ o)
      rw [flight, Line.flightTag_of_some (t := { t with last := some o }) (if_pos hr)]
    · rename_i hr
      have ended : s.Works (s.updLine l fun x => x.endsAttempt t o kind) [] t.kind.tag.toList := by
        refine State.updLine_works_of_record (.inl rfl) rfl rfl fun _ => ?_
        rw [flight, Line.flightTag_of_none (if_neg hr), List.append_nil, List.nil_append]
      exact (ended.trans ((State.countFlight_works _ _ o).frame _)).trans (State.deliver_works _ l t o)

/-- A line that leaves service loses its record, and the outcome is delivered (R41). -/
theorem State.leaveTransaction_works (s : State) (l : LineId) {f : Line → Line} (hf : (s.line l).SameWork (f (s.line l)))
    (o : FieldOutcome) : s.Works ((s.updLine l f).endTransaction l o) := by
  have line : ((s.updLine l f).line l).transaction = (s.line l).transaction := by rw [State.line_updLine_same, hf.transaction]
  unfold State.endTransaction
  rw [line]
  cases ht : (s.line l).transaction with
  | none =>
    have gone : (f (s.line l)).transaction = none := hf.transaction.trans ht
    exact State.updLine_works_of_record (.inr gone) hf.demandQueue hf.scan fun _ => by
      rw [Line.flightTag_of_none ht, Line.flightTag_of_none gone]
  | some t =>
    have vacated : s.Works (s.updLine l fun x => (f x).vacate) [] t.kind.tag.toList := by
      refine State.updLine_works_of_record (.inr rfl) hf.demandQueue hf.scan fun _ => ?_
      rw [Line.flightTag_of_some ht, Line.flightTag_of_none rfl, List.append_nil, List.nil_append]
    show s.Works (((s.updLine l f).updLine l Line.vacate).deliver l t o)
    rw [State.updLine_updLine]
    exact vacated.trans (State.deliver_works _ l t o)

/-- A line leaves service: its transaction, its demand queue and its scan job end with their replies (R62, R65). -/
theorem State.leave_works (s : State) (l : LineId) {f : Line → Line} (hf : (s.line l).SameWork (f (s.line l)))
    (o : FieldOutcome) {g : Line → Line} (hg : ∀ x, (g x).state = x.state ∧ (g x).transaction = x.transaction ∧
      (g x).demandQueue = x.demandQueue ∧ (g x).scan = x.scan) : s.Works (s.leave l f o g) := by
  have lost := ((s.leaveTransaction_works l hf o).trans (State.flush_works _ l o.status)).trans (State.endScan_works _ l o.status)
  have settled (u : State) : u.Works (u.updLine l g) := by
    obtain ⟨state, transaction, queue, scan⟩ := hg (u.line l)
    exact State.updLine_works_of_same state transaction queue scan
  exact (lost.trans (settled _)).trans (State.mark_works _ _)

theorem State.enterFault_works (s : State) (l : LineId) (cause : FaultCause) : s.Works (s.enterFault l cause) := by
  rw [State.enterFault_eq]
  exact s.leave_works l (Line.leaveService_sameWork _ _) _ fun _ => ⟨rfl, rfl, rfl, rfl⟩

theorem State.enterOff_works (s : State) (l : LineId) : s.Works (s.enterOff l) := by
  rw [State.enterOff_eq]
  exact s.leave_works l (Line.switchedOff_sameWork _) _ fun _ => ⟨rfl, rfl, rfl, rfl⟩

/-! ## Sending and receiving -/

theorem State.echoFails_works (s : State) (l : LineId) : s.Works (s.echoFails l) := by
  unfold State.echoFails
  extract_lets counted
  have count : s.Works counted := State.updLine_works_of_same rfl rfl rfl rfl
  refine count.trans ?_
  split
  · exact counted.enterFault_works l _
  · exact counted.endAttempt_works l _ _

/-- A line enters another state of its attempt, or none with its record gone. -/
theorem State.updLine_works_of_attempt {s : State} {l : LineId} {f : Line → Line} (hb : (f (s.line l)).state.busy = true)
    (ht : (f (s.line l)).transaction = (s.line l).transaction) (hd : (f (s.line l)).demandQueue = (s.line l).demandQueue)
    (hj : (f (s.line l)).scan = (s.line l).scan) : s.Works (s.updLine l f) :=
  State.updLine_works_of_record (.inl hb) hd hj fun _ => by rw [Line.flightTag, Line.flightTag, ht]

theorem State.sendingEnds_works (s : State) (l : LineId) : s.Works (s.sendingEnds l) := by
  obtain h | ⟨t, -, -, -, ⟨-, h⟩ | ⟨-, -, h⟩ | ⟨-, -, h⟩⟩ := s.sendingEnds_cases l <;> rw [h]
  · exact .refl s []
  · exact s.endAttempt_works l _ _
  · exact s.endAttempt_works l _ _
  · exact State.updLine_works_of_attempt rfl rfl rfl rfl

theorem State.takeEcho_works (s : State) (l : LineId) (begun : Nat) (data : Byte) (mark good : Bool) :
    s.Works (s.takeEcho l begun data mark good) := by
  unfold State.takeEcho
  dsimp only
  split
  · exact State.Works.trans (State.updLine_works_of_same rfl rfl rfl rfl) (State.sendingEnds_works _ l)
  · exact s.echoFails_works l

theorem State.countLine_works (s : State) (l : LineId) (f : LineCounters → LineCounters) : s.Works (s.countLine l f) :=
  State.updLine_works_of_same rfl rfl rfl rfl

theorem State.setOpenFrame_works (s : State) (l : LineId) (frame : Option (List Byte)) : s.Works (s.setOpenFrame l frame) :=
  State.updLine_works_of_same rfl rfl rfl rfl

theorem State.openStray_works (s : State) (l : LineId) (data : Byte) : s.Works (s.openStray l data) :=
  (s.countLine_works l _).trans (State.setOpenFrame_works _ l _)

theorem State.takeOutside_works (s : State) (l : LineId) (data : Byte) (mark good : Bool) :
    s.Works (s.takeOutside l data mark good) := by
  unfold State.takeOutside
  split
  · split
    · exact s.openStray_works l data
    · split
      · exact s.countLine_works l _
      · split <;> exact s.setOpenFrame_works l _
  · exact (s.countLine_works l _).trans (State.setOpenFrame_works _ l _)

theorem State.takeWaiting_works (s : State) (l : LineId) (t : Transaction) (data : Byte) (mark good : Bool) :
    s.Works (s.takeWaiting l t data mark good) := by
  unfold State.takeWaiting
  split
  · exact State.updLine_works_of_attempt rfl rfl rfl rfl
  · exact s.takeOutside_works l data mark good

theorem State.discardCandidate_works (s : State) (l : LineId) : s.Works (s.discardCandidate l) := by
  unfold State.discardCandidate
  extract_lets closed
  have close : s.Works closed := (s.countLine_works l _).trans (State.setOpenFrame_works _ l none)
  refine close.trans ?_
  split
  · exact State.endAttempt_works _ l _ _
  · exact State.updLine_works_of_attempt rfl rfl rfl rfl

theorem State.breakCandidate_works (s : State) (l : LineId) : s.Works (s.breakCandidate l) :=
  (s.setOpenFrame_works l none).trans (State.endAttempt_works _ l _ _)

theorem State.takeReceiving_works (s : State) (l : LineId) (t : Transaction) (data : Byte) (mark good : Bool) :
    s.Works (s.takeReceiving l t data mark good) := by
  unfold State.takeReceiving
  split
  · split
    · exact (s.breakCandidate_works l).trans (State.openStray_works _ l data)
    · split
      · exact s.setOpenFrame_works l _
      · exact s.breakCandidate_works l
      · split
        · exact s.discardCandidate_works l
        · exact (s.setOpenFrame_works l none).trans (State.endAttempt_works _ l _ _)
  · exact (s.countLine_works l _).trans (State.breakCandidate_works _ l)

theorem State.takeCharacter_works (s : State) (l : LineId) (data : Byte) (mark good : Bool) :
    s.Works (s.takeCharacter l data mark good) := by
  unfold State.takeCharacter
  extract_lets x finished
  refine State.Works.trans (t := finished) (State.updLine_works_of_same rfl rfl rfl rfl) ?_
  split
  · exact .refl _ []
  · exact .refl _ []
  · exact .refl _ []
  · exact finished.takeEcho_works l _ data mark good
  · exact finished.takeEcho_works l _ data mark good
  · exact .refl _ []
  · exact finished.takeWaiting_works l _ data mark good
  · exact finished.takeReceiving_works l _ data mark good
  · exact finished.takeOutside_works l data mark good

end Sys2Proof.Machine
/-! SUPPORT. The requests and the store jobs keep notices and tags single: a tag joins the registry only where it was not, and its
request takes a place at once (laws L5, L6). -/

namespace Sys2Proof.Machine

/-! ## The line requests -/

/-- A line that is not busy has no record, so that it may enter any state. -/
theorem State.updLine_works_of_unbusy {s : State} {l : LineId} {f : Line → Line} (hb : (s.line l).state.busy = false)
    (ht : (f (s.line l)).transaction = (s.line l).transaction) (hd : (f (s.line l)).demandQueue = (s.line l).demandQueue)
    (hj : (f (s.line l)).scan = (s.line l).scan) : s.Works (s.updLine l f) :=
  State.updLine_works (fun _ => by rw [Line.tags, Line.tags, ht, hd, hj]) fun h _ => ht.trans (h hb)

theorem State.setLine_works_of_same {s : State} {l : LineId} {x : Line} (hs : x.state = (s.line l).state)
    (ht : x.transaction = (s.line l).transaction) (hd : x.demandQueue = (s.line l).demandQueue) (hj : x.scan = (s.line l).scan) :
    s.Works (s.setLine l x) := State.updLine_works_of_same (f := fun _ => x) hs ht hd hj

theorem State.lineSet_works (s : State) (rq : Request) (l : LineId) (settings : LineSettings) :
    s.Works (s.lineSet rq l settings) := by
  unfold State.lineSet
  extract_lets x set_ reported
  have hset : s.Works set_ := State.setLine_works_of_same rfl rfl rfl rfl
  have hreported : set_.Works reported := by
    simp only [reported]
    split
    · exact .refl set_ []
    · exact set_.reportChange_works
  split
  · exact (hset.trans hreported).trans (State.answer_works _ rq _ _)
  · exact s.answer_works rq _ _

theorem State.lineEnable_works (s : State) (rq : Request) (l : LineId) : s.Works (s.lineEnable rq l) := by
  unfold State.lineEnable
  extract_lets up marked reported answered
  split
  · rename_i hoff
    have hup : s.Works up := State.updLine_works_of_unbusy (by rw [hoff]; rfl) rfl rfl rfl
    have hanswered : marked.Works answered := marked.reportChange_works.trans (State.answer_works _ rq _ _)
    exact ((hup.trans (State.mark_works _ _)).trans hanswered).trans (answered.askArbiter_works l)
  · exact s.answer_works rq _ _

theorem State.lineDisable_works (s : State) (rq : Request) (l : LineId) : s.Works (s.lineDisable rq l) := by
  unfold State.lineDisable
  split
  · exact s.answer_works rq _ _
  · exact ((s.enterOff_works l).trans (State.reportChange_works _)).trans (State.answer_works _ rq _ _)

theorem State.lineInfo_works (s : State) (rq : Request) (l : LineId) (clear : Bool) : s.Works (s.lineInfo rq l clear) := by
  rw [State.lineInfo_eq]
  refine State.Works.trans ?_ (State.answer_works _ rq _ _)
  exact State.setLine_works_of_same rfl rfl rfl rfl

/-! ## The node requests -/

theorem State.nodeAdd_works (s : State) (rq : Request) (c : NodeConfig) (startDisabled : Bool) :
    s.Works (s.nodeAdd rq c startDisabled) := by
  cases held : s.addressHeld c.line c.address with
  | true => rw [State.nodeAdd_of_held held]; exact s.answer_works rq _ _
  | false =>
    cases hi : s.freeIndex with
    | none => rw [State.nodeAdd_of_full held hi]; exact s.answer_works rq _ _
    | some i =>
      have added : s.Works (s.added rq c startDisabled i) :=
        (((s.setNode_works i _).trans (State.setSnapshot_works _ i _)).trans (State.reportChange_works _)).trans
          (State.answer_works _ rq _ _)
      rw [State.nodeAdd_of_free held hi]
      split
      · exact added.trans (State.makeDueNow_works _ _ i)
      · exact added

theorem State.nodeSet_works (s : State) (rq : Request) (i : Index) (c : NodeConfig) : s.Works (s.nodeSet rq i c) := by
  obtain ⟨status, data, e⟩ | ⟨n, -, -, -, -, e⟩ := s.nodeSet_cases rq i c <;> rw [e]
  · exact s.answer_works rq _ _
  · refine State.Works.trans ?_ (State.answer_works _ rq _ _)
    unfold State.configured
    split
    · exact s.setNode_works i _
    · exact (s.setNode_works i _).trans (State.reportChange_works _)

theorem State.nodeRemove_works (s : State) (rq : Request) (i : Index) : s.Works (s.nodeRemove rq i) := by
  cases hlive : s.liveNode i with
  | none => rw [State.nodeRemove_of_none hlive]; exact s.answer_works rq _ _
  | some n =>
    rw [State.nodeRemove_of_live hlive]
    have withdrawn := (s.withhold_works n.config.line i n.remove .nodeRemoved).trans (State.withdraw_works _ i)
    exact (((withdrawn.trans (State.setSnapshot_works _ i none)).trans (State.reportChange_works _)).trans
      (State.answer_works _ rq _ _)).trans (State.setNode_works _ i _)

theorem State.nodeEnable_works (s : State) (rq : Request) (i : Index) : s.Works (s.nodeEnable rq i) := by
  cases hlive : s.liveNode i with
  | none => rw [State.nodeEnable_of_none hlive]; exact s.answer_works rq _ _
  | some n =>
    by_cases hs : n.state = .disabled
    · rw [State.nodeEnable_of_disabled hlive hs]
      extract_lets enabled
      have henabled : s.Works enabled := (((s.setNode_works i _).trans (State.mark_works _ _)).trans
        (State.reportChange_works _)).trans (State.answer_works _ rq _ _)
      split
      · exact henabled.trans (enabled.makeDueNow_works _ i)
      · exact henabled
    · rw [State.nodeEnable_of_active hlive hs]; exact s.answer_works rq _ _

theorem State.nodeDisable_works (s : State) (rq : Request) (i : Index) : s.Works (s.nodeDisable rq i) := by
  cases hlive : s.liveNode i with
  | none => rw [State.nodeDisable_of_none hlive]; exact s.answer_works rq _ _
  | some n =>
    by_cases hs : n.state = .disabled
    · rw [State.nodeDisable_of_disabled hlive hs]; exact s.answer_works rq _ _
    · rw [State.nodeDisable_eq s rq hlive hs]
      exact (((s.withhold_works _ i _ _).trans (State.mark_works _ _)).trans (State.reportChange_works _)).trans
        (State.answer_works _ rq _ _)

theorem State.nodeInfo_works (s : State) (rq : Request) (i : Index) (clear : Bool) : s.Works (s.nodeInfo rq i clear) := by
  unfold State.nodeInfo
  split
  · exact s.answer_works rq _ _
  · dsimp only
    split
    · exact (s.setNode_works i _).trans (State.answer_works _ rq _ _)
    · exact s.answer_works rq _ _

theorem State.readSnapshot_works (s : State) (rq : Request) (i : Index) : s.Works (s.readSnapshot rq i) := by
  unfold State.readSnapshot
  split <;> exact s.answer_works rq _ _

/-! ## Demands -/

theorem State.acceptDemand_works {s : State} (l : LineId) {e : DemandEntry} (h : e.tag ∉ s.tags) : s.Works (s.acceptDemand l e) := by
  have queued : (s.addTag e.tag).Works ((s.addTag e.tag).updLine l fun x => { x with demandQueue := x.demandQueue ++ [e] }) [e.tag] [] := by
    refine State.updLine_works_of_waiting rfl rfl (List.perm_iff_count.mpr fun tag => ?_)
    simp only [Line.waitingTags, List.map_append, List.map_cons, List.map_nil, List.count_append, List.count_nil]
    omega
  exact ((State.addTag_works h).trans queued).trans (State.askArbiter_works _ l)

theorem State.demand_works (s : State) (rq : Request) (i : Index) (op : Operation) : s.Works (s.demand rq i op) := by
  unfold State.demand
  dsimp only
  split
  · exact s.answer_works rq _ _
  · rename_i untaken
    split
    · exact s.answer_works rq _ _
    · split
      · exact s.answer_works rq _ _
      · split
        · exact s.answer_works rq _ _
        · exact State.acceptDemand_works _ untaken

theorem State.broadcast_works (s : State) (rq : Request) (l : LineId) (op : Operation) : s.Works (s.broadcast rq l op) := by
  unfold State.broadcast
  split
  · exact s.answer_works rq _ _
  · rename_i untaken
    split
    · exact s.answer_works rq _ _
    · exact State.acceptDemand_works _ untaken

/-- The entry that CANCEL finds leaves the queue with its tag (R119). -/
theorem State.cancelEntry_works {s : State} {l : LineId} {target : Byte} {e : DemandEntry} (h : (s.line l).queued target = some e) :
    s.Works (s.cancelEntry l e) := by
  have removed : s.Works (s.updLine l fun x => { x with demandQueue := x.demandQueue.eraseP fun q => q.tag = e.tag }) [] [e.tag] := by
    refine State.updLine_works_of_waiting rfl rfl (List.perm_iff_count.mpr fun tag => ?_)
    obtain ⟨q, before, after, -, hq, split, erased⟩ := List.exists_of_eraseP (p := fun q => q.tag = e.tag)
      (List.mem_of_find?_eq_some h) (by simp)
    have tag_q : q.tag = e.tag := by simpa using hq
    simp only [Line.waitingTags, erased]
    rw [split]
    simp only [List.map_append, List.map_cons, tag_q, List.nil_append, List.count_append, List.count_cons, List.count_nil]
    omega
  exact removed.trans (State.replyEntry_works _ l .cancelled e)

theorem State.cancel_works (s : State) (rq : Request) (target : Byte) : s.Works (s.cancel rq target) := by
  unfold State.cancel
  split
  · rename_i h
    exact (State.cancelEntry_works (l := .a) h).trans (State.answer_works _ rq _ _)
  · rename_i h
    exact (State.cancelEntry_works (l := .b) h).trans (State.answer_works _ rq _ _)
  · split <;> exact s.answer_works rq _ _

/-! ## Scan jobs -/

theorem State.scanStart_works (s : State) (rq : Request) (l : LineId) (first last timeout : Byte) :
    s.Works (s.scanStart rq l first last timeout) := by
  unfold State.scanStart
  split
  · exact s.answer_works rq _ _
  · rename_i untaken
    split
    · exact s.answer_works rq _ _
    · split
      · exact s.answer_works rq _ _
      · split
        · exact s.answer_works rq _ _
        · rename_i idle
          have created : (s.addTag rq.tag).Works ((s.addTag rq.tag).updLine l fun x =>
              { x with scan := some (ScanJob.create rq.tag first last timeout) }) [rq.tag] [] := by
            refine State.updLine_works_of_waiting rfl rfl ?_
            have none_ : (s.line l).scan = none := by simpa using idle
            rw [State.line_addTag, Line.waitingTags, none_]
            exact List.perm_append_comm.trans (by simp [Line.waitingTags, ScanJob.create])
          exact ((State.addTag_works untaken).trans created).trans (State.askArbiter_works _ l)

theorem State.scanAbort_works (s : State) (rq : Request) (l : LineId) : s.Works (s.scanAbort rq l) := by
  unfold State.scanAbort
  split
  · exact s.answer_works rq _ _
  · rename_i j hj
    split
    · exact (s.endScan_works l _).trans (State.answer_works _ rq _ _)
    · exact (State.setScan_works (k := { j with abort := true }) hj rfl).trans (State.answer_works _ rq _ _)

/-! ## Store jobs -/

/-- The tag of the store job, if there is one. -/
def State.jobTags (s : State) : List Byte := (s.storeJob.map StoreJob.tag).toList

/-- What is posted does not depend on the store job. -/
theorem Posts.setJob {s t : State} {rs : List Reply} {m : Option Subject} (h : Posts s t rs m) (job : Option StoreJob) :
    Posts { s with storeJob := job } { t with storeJob := job } rs m := by
  obtain ⟨strap, slot0, slot1, slotOrder, link, linkAck, linkByte, nodes, snapshots, lineA, lineB, partTime, storeSlot0, storeSlot1, -,
    configChanged, changedAfterCapture, generation, storePhases, resetting, pending⟩ := h.core
  exact ⟨⟨strap, slot0, slot1, slotOrder, link, linkAck, linkByte, nodes, snapshots, lineA, lineB, partTime, storeSlot0, storeSlot1, rfl,
    configChanged, changedAfterCapture, generation, storePhases, resetting, pending⟩, h.appended,
    ⟨h.kept.reported, h.kept.order, h.kept.count⟩, fun hs => ⟨(h.single ⟨hs.pending_once, hs.queued_once⟩).pending_once,
      (h.single ⟨hs.pending_once, hs.queued_once⟩).queued_once⟩⟩

/-- A store job ends with its reply; it may end as it is accepted, while its tag is still owed a place (R137, R139, R140). -/
theorem State.endJob_works {s : State} {a : List Byte} {tag : Byte} (h : (a ++ s.jobTags).Perm [tag]) (reservation : Nat) (r : Reply) :
    s.Works { (s.dropTag tag).queueReply reservation r with storeJob := none } a [] := by
  have gone : s.Works { s with storeJob := none } a [tag] := State.setJob_works rfl rfl rfl rfl rfl rfl rfl rfl rfl h
  obtain ⟨posts, -, -, tags, -⟩ := (s.dropTag tag).queueReply_posts reservation r
  exact (gone.trans (State.dropTag_works _ tag)).trans ((posts.setJob none).works tags)

theorem State.endSave_works {s : State} {tag : Byte} (h : s.jobTags = [tag]) (generation : Word) (good : Bool) :
    s.Works (s.endSave tag generation good) := by
  unfold State.endSave
  extract_lets u v
  have first : s.Works u ∧ u.jobTags = [tag] := by
    simp only [u]
    split
    · exact ⟨.of_fields rfl rfl rfl rfl rfl rfl rfl rfl rfl rfl, h⟩
    · exact ⟨.refl s [], h⟩
  have ended : u.Works { v with storeJob := none } := State.endJob_works (a := []) (by rw [first.2]; exact .refl _) _ _
  exact (first.1.trans ended).trans (.of_fields rfl rfl rfl rfl rfl rfl rfl rfl rfl rfl)

theorem State.startSave_works {s : State} {tag : Byte} (hj : s.storeJob = none) (ht : tag ∉ s.tags) : s.Works (s.startSave tag) := by
  unfold State.startSave
  extract_lets newest target job tagged u slot
  have started : (s.addTag tag).Works u [tag] [] :=
    State.setJob_works rfl rfl rfl rfl rfl rfl rfl rfl rfl (by simp [hj, u, job, StoreJob.tag])
  refine ((State.addTag_works ht).trans started).trans ?_
  split
  · exact State.endSave_works rfl _ _
  · exact (State.setStoreSlot_works _ _ _).trans (.of_fields rfl rfl rfl rfl rfl rfl rfl rfl rfl rfl)

theorem State.endErase_works {s : State} {a : List Byte} {tag : Byte} (h : (a ++ s.jobTags).Perm [tag]) (status : Status) :
    s.Works (s.endErase tag status) a [] := State.endJob_works h _ _

theorem State.eraseNext_works {s : State} {a : List Byte} {tag : Byte} (h : (a ++ s.jobTags).Perm [tag]) (slots : List SlotId) :
    s.Works (s.eraseNext tag slots) a [] := by
  cases slots with
  | nil => exact State.endErase_works h .ok
  | cons slot rest =>
    have invalidated (x : StoreSlot) (generation : Word) (held : Bool) : (s.setStoreSlot slot x).Works
        ({ s.setStoreSlot slot x with generation := generation, storeJob := some (.erase tag slot rest held) } : State).beginPhase a [] :=
      State.setJob_works rfl rfl rfl rfl rfl rfl rfl rfl rfl (by simpa [State.jobTags, StoreJob.tag] using h)
    exact ((s.setStoreSlot_works slot _).frame a).trans (invalidated _ _ _)

theorem State.storeSave_works (s : State) (rq : Request) : s.Works (s.storeSave rq) := by
  unfold State.storeSave
  split
  · exact s.answer_works rq _ _
  · split
    · exact s.answer_works rq _ _
    · rename_i untaken idle
      exact State.startSave_works (by simpa using idle) untaken

theorem State.storeErase_works (s : State) (rq : Request) : s.Works (s.storeErase rq) := by
  unfold State.storeErase
  split
  · exact s.answer_works rq _ _
  · split
    · exact s.answer_works rq _ _
    · rename_i untaken idle
      have none_ : s.storeJob = none := by simpa using idle
      exact (State.addTag_works untaken).trans (State.eraseNext_works (by simp [State.jobTags, none_]) _)

end Sys2Proof.Machine
/-! SUPPORT. The events of the I2C link keep the host link in order (R146 to R151). -/

namespace Sys2Proof.Machine

/-! ## The order of the link, slot by slot -/

/-- A request slot agrees with the link and the slot order: FILLING while a write into it is in progress, FULL while it stands in the
order (R146 to R148). -/
def RequestSlot.Agrees (x : RequestSlot) (id : SlotId) (link : LinkTransaction) (order : List SlotId) : Prop :=
  match x with
  | .free => (∀ long, link ≠ .write id long) ∧ id ∉ order
  | .filling bytes => (∃ long, link = .write id long ∧ (long = true → bytes.length = 63)) ∧ bytes.length ≤ 63 ∧ id ∉ order
  | .full bytes => (∀ long, link ≠ .write id long) ∧ id ∈ order ∧ frameAccepted bytes = true

/-- The message of a read in progress is the head of the outbound queue (R149). -/
def State.ReadsHead (s : State) : Prop := ∀ message sent, s.link = .read (some message) sent → s.outbound.head? = some message

theorem State.LinkInOrder.agrees {s : State} (h : s.LinkInOrder) (id : SlotId) : (s.slot id).Agrees id s.link s.slotOrder := by
  have filling := h.filling id
  have full := h.full id
  cases hx : s.slot id with
  | free => exact ⟨by simpa [hx] using filling, by simp [full, hx]⟩
  | filling bytes =>
    obtain ⟨long, link⟩ := filling.mp ⟨bytes, hx⟩
    obtain ⟨bound, all⟩ := h.stored id bytes hx
    exact ⟨⟨long, link, fun ho => all (ho ▸ link)⟩, bound, by simp [full, hx]⟩
  | full bytes => exact ⟨by simpa [hx] using filling, full.mpr ⟨bytes, hx⟩, h.accepted id bytes hx⟩

theorem State.LinkInOrder.of_agrees {s : State} (h : ∀ id, (s.slot id).Agrees id s.link s.slotOrder) (once : s.slotOrder.Nodup)
    (fixed : s.ReadsHead) : s.LinkInOrder := by
  refine ⟨fun id => ?filling, fun id bytes hx => ?stored, fun id => ?full, once, fun id bytes hx => ?accepted, fixed⟩
  all_goals have agrees := h id
  case filling =>
    cases hx : s.slot id with
    | free => rw [hx] at agrees; exact iff_of_false nofun fun ⟨long, hl⟩ => agrees.1 long hl
    | filling bytes => rw [hx] at agrees; exact iff_of_true ⟨bytes, rfl⟩ (agrees.1.imp fun _ g => g.1)
    | full bytes => rw [hx] at agrees; exact iff_of_false nofun fun ⟨long, hl⟩ => agrees.1 long hl
  case full =>
    cases hx : s.slot id with
    | free => rw [hx] at agrees; exact iff_of_false agrees.2 nofun
    | filling bytes => rw [hx] at agrees; exact iff_of_false agrees.2.2 nofun
    | full bytes => rw [hx] at agrees; exact iff_of_true agrees.2.1 ⟨bytes, rfl⟩
  case stored =>
    rw [hx] at agrees
    obtain ⟨⟨long, link, all⟩, bound, -⟩ := agrees
    refine ⟨bound, fun hl => all ?_⟩
    rw [link] at hl
    exact (LinkTransaction.write.inj hl).2
  case accepted =>
    rw [hx] at agrees
    exact agrees.2.2

theorem RequestSlot.Agrees.congr {x : RequestSlot} {id : SlotId} {link link' : LinkTransaction} {order order' : List SlotId}
    (h : x.Agrees id link order) (hl : ∀ long, link' = .write id long ↔ link = .write id long) (ho : id ∈ order' ↔ id ∈ order) :
    x.Agrees id link' order' := by
  cases x <;> simpa [RequestSlot.Agrees, hl, ho] using h

/-- One slot is replaced, and the link and the order change for no other. -/
theorem State.LinkInOrder.replaceSlot {s t : State} (h : s.LinkInOrder) (id : SlotId)
    (hs : ∀ k, k ≠ id → t.slot k = s.slot k ∧ (∀ long, t.link = .write k long ↔ s.link = .write k long) ∧
      (k ∈ t.slotOrder ↔ k ∈ s.slotOrder))
    (hid : (t.slot id).Agrees id t.link t.slotOrder) (hn : t.slotOrder.Nodup) (hf : t.ReadsHead) : t.LinkInOrder := by
  refine .of_agrees (fun k => ?_) hn hf
  by_cases hk : k = id
  · exact hk ▸ hid
  · obtain ⟨slot, link, order⟩ := hs k hk
    rw [slot]
    exact (h.agrees k).congr link order

/-- The link comes to another transaction that is no write, from one that is none. -/
theorem State.LinkInOrder.relink {s t : State} (h : s.LinkInOrder) (hs : ∀ k, t.slot k = s.slot k) (ho : t.slotOrder = s.slotOrder)
    (hl : ∀ k long, s.link ≠ .write k long) (hl' : ∀ k long, t.link ≠ .write k long) (hf : t.ReadsHead) : t.LinkInOrder := by
  refine .of_agrees (fun k => ?_) (ho ▸ h.once) hf
  rw [hs k, ho]
  exact (h.agrees k).congr (fun long => by simp [hl, hl']) Iff.rfl

theorem State.slot_setSlot_other (s : State) {id k : SlotId} (h : k ≠ id) (x : RequestSlot) : (s.setSlot id x).slot k = s.slot k := by
  cases id <;> cases k
  · exact absurd rfl h
  · rfl
  · rfl
  · exact absurd rfl h

/-- The slot of a write in progress is FILLING. -/
theorem State.LinkInOrder.filling_of_write {s : State} (h : s.LinkInOrder) {id : SlotId} {long : Bool} (hl : s.link = .write id long) :
    ∃ bytes, s.slot id = .filling bytes ∧ id ∉ s.slotOrder ∧ bytes.length ≤ 63 ∧ (long = true → bytes.length = 63) := by
  obtain ⟨bytes, hb⟩ := (h.filling id).mpr ⟨long, hl⟩
  obtain ⟨bound, all⟩ := h.stored id bytes hb
  refine ⟨bytes, hb, fun hm => ?_, bound, fun ho => all (ho ▸ hl)⟩
  obtain ⟨full, hf⟩ := (h.full id).mp hm
  rw [hb] at hf
  cases hf

/-! ## A request leaves its slot -/

/-- The oldest request is the frame in the slot at the head of the order (R154). -/
theorem State.oldestRequest_spec {s : State} {id : SlotId} {rq : Request} (h : s.oldestRequest = some (id, rq)) :
    ∃ rest bytes, s.slotOrder = id :: rest ∧ s.slot id = .full bytes := by
  unfold State.oldestRequest at h
  split at h
  · cases h
  · rename_i k rest order
    split at h
    · rename_i bytes full
      obtain ⟨rq', -, e⟩ := Option.map_eq_some_iff.mp h
      cases e
      exact ⟨rest, bytes, order, full⟩
    · cases h

theorem State.LinkInOrder.accept {s : State} (h : s.LinkInOrder) {id : SlotId} {rq : Request}
    (hr : s.oldestRequest = some (id, rq)) : (s.accept id rq).LinkInOrder := by
  obtain ⟨rest, bytes, order, full⟩ := State.oldestRequest_spec hr
  have once : (id :: rest).Nodup := order ▸ h.once
  have tail : (s.accept id rq).slotOrder = rest := by rw [State.accept_slotOrder, order]; rfl
  have agrees := h.agrees id
  rw [full] at agrees
  refine h.replaceSlot id (fun k hk => ⟨?_, by simp, ?_⟩) ?_ ?_ ?_
  · exact s.slot_setSlot_other hk .free
  · simp [order, hk]
  · have freed : (s.accept id rq).slot id = .free := s.slot_setSlot_same id .free
    rw [freed, tail, s.accept_link]
    exact ⟨agrees.1, (List.nodup_cons.mp once).1⟩
  · rw [tail]; exact (List.nodup_cons.mp once).2
  · intro message sent hl
    rw [s.accept_outbound]
    exact h.fixed message sent (by simpa using hl)

/-! ## The end of a transaction -/

/-- A write ends with its slot freed, or full behind the others (R148, R151). -/
theorem State.LinkInOrder.closeWrite {s t : State} (h : s.LinkInOrder) {id : SlotId} {long : Bool} (hl : s.link = .write id long)
    (hs : ∀ k, k ≠ id → t.slot k = s.slot k) (ht : t.link = .none)
    (hid : t.slot id = .free ∧ t.slotOrder = s.slotOrder ∨
      ∃ bytes, frameAccepted bytes = true ∧ t.slot id = .full bytes ∧ t.slotOrder = s.slotOrder ++ [id]) : t.LinkInOrder := by
  obtain ⟨-, -, unlisted, -, -⟩ := h.filling_of_write hl
  have reads : t.ReadsHead := fun message sent hr => by rw [ht] at hr; cases hr
  have link (k : SlotId) (hk : k ≠ id) (o : Bool) : t.link = .write k o ↔ s.link = .write k o := by
    rw [ht, hl]
    simp [Ne.symm hk]
  obtain ⟨slot, order⟩ | ⟨bytes, accepted, slot, order⟩ := hid
  · refine h.replaceSlot id (fun k hk => ⟨hs k hk, link k hk, by rw [order]⟩) ?_ (order ▸ h.once) reads
    rw [slot, ht, order]
    exact ⟨nofun, unlisted⟩
  · refine h.replaceSlot id (fun k hk => ⟨hs k hk, link k hk, by simp [order, hk]⟩) ?_ ?_ reads
    · rw [slot, ht, order]
      exact ⟨nofun, by simp, accepted⟩
    · rw [order]
      exact List.nodup_append_comm.mp (List.nodup_cons.mpr ⟨unlisted, h.once⟩)

theorem State.LinkInOrder.endWrite {s : State} (h : s.LinkInOrder) {id : SlotId} {long : Bool} (hl : s.link = .write id long) :
    (s.endWrite id long).LinkInOrder ∧ (s.endWrite id long).link = .none := by
  obtain ⟨bytes, hb, -⟩ := h.filling_of_write hl
  unfold State.endWrite
  extract_lets u
  have slot (k : SlotId) : u.slot k = s.slot k := by cases k <;> rfl
  have others (x : RequestSlot) (k : SlotId) (hk : k ≠ id) : (u.setSlot id x).slot k = s.slot k :=
    (u.slot_setSlot_other hk x).trans (slot k)
  have freed : (u.setSlot id .free).LinkInOrder :=
    h.closeWrite hl (others .free) (by simp [u]) (.inl ⟨u.slot_setSlot_same id _, by simp [u]⟩)
  rw [slot id, hb]
  dsimp only
  split
  · exact ⟨freed, by simp [u]⟩
  · split
    · rename_i good
      refine ⟨h.closeWrite hl (fun k hk => ?_) (by simp [u]) (.inr ⟨bytes, good.2, ?_, by simp [u]⟩), by simp [u]⟩
      · rw [← others (.full bytes) k hk]; cases k <;> rfl
      · rw [← u.slot_setSlot_same id (.full bytes)]; cases id <;> rfl
    · exact ⟨(State.rejectFrame_works _).linkInOrder freed, by rw [(State.rejectFrame_works _).link]; simp [u]⟩

theorem State.LinkInOrder.endRead {s : State} (h : s.LinkInOrder) {message : Option Message} {sent : Nat}
    (hl : s.link = .read message sent) : (s.endRead message sent).LinkInOrder ∧ (s.endRead message sent).link = .none := by
  unfold State.endRead
  extract_lets u
  have closed (out : List Message) : State.LinkInOrder { u with outbound := out } :=
    h.relink (fun k => by cases k <;> rfl) rfl (by simp [hl]) (by simp [u]) (by simp [State.ReadsHead, u])
  split
  · split
    · exact ⟨(State.walk_works _).linkInOrder (closed _), (State.walk_works _).link⟩
    · exact ⟨closed u.outbound, rfl⟩
  · exact ⟨closed u.outbound, rfl⟩

/-- A start condition finds the link without a transaction (R148, R150). -/
theorem State.LinkInOrder.endLink {s : State} (h : s.LinkInOrder) : s.endLink.LinkInOrder ∧ s.endLink.link = .none := by
  unfold State.endLink
  split
  · exact h.endWrite ‹_›
  · exact h.endRead ‹_›
  · exact ⟨h, ‹_›⟩

/-! ## The start of a transaction, and its bytes -/

/-- What the device last drove is not read by the laws. -/
theorem State.acknowledge_works (s : State) (ack : Bool) : s.Works (s.acknowledge ack) := .of_fields rfl rfl rfl rfl rfl rfl rfl rfl rfl rfl

theorem State.slot_of_freeSlot {s : State} {id : SlotId} (h : s.freeSlot = some id) : s.slot id = .free := by
  unfold State.freeSlot at h
  split at h
  · cases h; assumption
  · split at h
    · cases h; assumption
    · cases h

/-- A write begins in a FREE slot (R147). -/
theorem State.LinkInOrder.beginWrite {s : State} (h : s.LinkInOrder) (hl : s.link = .none) {id : SlotId} (hf : s.slot id = .free) :
    State.LinkInOrder { s.setSlot id (.filling []) with link := .write id false } := by
  have agrees := h.agrees id
  rw [hf] at agrees
  refine h.replaceSlot id (fun k hk => ⟨?_, ?_, by simp⟩) ?_ (by simpa using h.once) nofun
  · rw [← s.slot_setSlot_other hk (.filling [])]; cases k <;> rfl
  · simp [hl, Ne.symm hk]
  · have filling : State.slot { s.setSlot id (.filling []) with link := .write id false } id = .filling [] := by
      rw [← s.slot_setSlot_same id (.filling [])]; cases id <;> rfl
    rw [filling]
    exact ⟨⟨false, rfl, nofun⟩, by simp, by simpa using agrees.2⟩

/-- A byte is stored while the slot has room; the first that finds none sets the over-length mark (R147). -/
theorem State.LinkInOrder.storeByte {s : State} (h : s.LinkInOrder) {id : SlotId} {long : Bool} (hl : s.link = .write id long)
    (data : Byte) : (s.storeByte id data).LinkInOrder := by
  obtain ⟨bytes, hb, unlisted, bound, all⟩ := h.filling_of_write hl
  unfold State.storeByte
  rw [hb]
  dsimp only
  split
  · rename_i room
    have room : bytes.length < 63 := room
    refine (State.acknowledge_works _ _).linkInOrder (h.replaceSlot id (fun k hk => ⟨s.slot_setSlot_other hk _, by simp, by simp⟩) ?_
      (by simpa using h.once) ?_)
    · rw [State.slot_setSlot_same, State.setSlot_link, State.setSlot_slotOrder]
      exact ⟨⟨long, hl, fun ho => absurd (all ho) (by omega)⟩, by simp; omega, unlisted⟩
    · exact fun message sent hr => by simp [hl] at hr
  · rename_i full
    have full : ¬bytes.length < 63 := full
    refine (State.acknowledge_works _ _).linkInOrder (h.replaceSlot id (fun k hk => ⟨by cases k <;> rfl, ?_, Iff.rfl⟩) ?_ h.once nofun)
    · simp [hl, Ne.symm hk]
    · have same : State.slot { s with link := .write id true } id = s.slot id := by cases id <;> rfl
      rw [same, hb]
      exact ⟨⟨true, rfl, fun _ => by omega⟩, bound, unlisted⟩

end Sys2Proof.Machine
/-! SUPPORT. Every command but those of a reset keeps notices and tags single and the host link in order (laws L5, L6, R146). -/

namespace Sys2Proof.Machine

/-- What a command outside of a reset keeps: notices and tags single, and the host link in order. -/
structure State.KeepsLaws (s t : State) : Prop extends s.KeepsSingle t where
  link : s.LinkInOrder → t.LinkInOrder

theorem State.KeepsLaws.refl (s : State) : s.KeepsLaws s := ⟨.refl s [], id⟩

theorem State.KeepsLaws.trans {s t u : State} (h : s.KeepsLaws t) (g : t.KeepsLaws u) : s.KeepsLaws u :=
  ⟨h.toKeepsSingle.trans g.toKeepsSingle, g.link ∘ h.link⟩

theorem State.Works.keepsLaws {s t : State} (h : s.Works t) : s.KeepsLaws t := ⟨h.toKeepsSingle, h.linkInOrder⟩

/-! ## Requests -/

theorem State.accept_keepsLaws {s : State} {id : SlotId} {rq : Request} (hr : s.oldestRequest = some (id, rq)) :
    s.KeepsLaws (s.accept id rq) :=
  ⟨.of_fields (fun h => ⟨by simpa using h.pending_once, by simpa using h.queued_once⟩) (by simp) (by simp) (by simp) (by simp),
    fun h => h.accept hr⟩

theorem State.take_keepsLaws (s : State) (k : Option RequestKind) {owner : Request → State → State}
    (h : ∀ rq u, State.Works u (owner rq u)) : s.KeepsLaws (s.take k owner) := by
  obtain e | ⟨id, rq, ⟨-, hr, -, -⟩, e⟩ := s.take_cases k owner <;> rw [e]
  · exact .refl s
  · exact (State.accept_keepsLaws hr).trans (h rq _).keepsLaws

/-! ## The shapes of events -/

theorem State.awake_keepsLaws (s : State) {f : State → State} (h : s.KeepsLaws (f s)) : s.KeepsLaws (s.awake f) := by
  obtain e | ⟨-, e⟩ := s.awake_cases f <;> rw [e]
  · exact .refl s
  · exact h

theorem State.awake_works (s : State) {f : State → State} (h : s.Works (f s)) : s.Works (s.awake f) := by
  obtain e | ⟨-, e⟩ := s.awake_cases f <;> rw [e]
  · exact .refl s []
  · exact h

theorem State.onNode_works (s : State) (index : Nat) {f : Index → Node → State} (h : ∀ i n, s.Works (f i n)) :
    s.Works (s.onNode index f) := by
  obtain e | ⟨i, n, -, e⟩ := s.onNode_cases index f <;> rw [e]
  · exact .refl s []
  · exact h i n

/-- An event of a SAVE reaches the job whose tag it hands on (R138). -/
theorem State.inPhase_works (s : State) (number : Nat) (phases : List SavePhase) {f : Byte → Image → SlotId → Word → State}
    (h : ∀ tag image target generation, s.jobTags = [tag] → s.Works (f tag image target generation)) :
    s.Works (s.inPhase number phases f) := by
  obtain e | ⟨tag, p, image, target, generation, hj, -, -, e⟩ := s.inPhase_cases number phases f <;> rw [e]
  · exact .refl s []
  · exact h tag image target generation (by rw [State.jobTags, hj]; rfl)

/-- An event of an ERASE reaches the job whose tag it hands on (R140). -/
theorem State.inErase_works (s : State) (number : Nat) {f : Byte → SlotId → List SlotId → Bool → State}
    (h : ∀ tag slot rest held, s.jobTags = [tag] → s.Works (f tag slot rest held)) : s.Works (s.inErase number f) := by
  obtain e | ⟨tag, slot, rest, held, hj, -, e⟩ := s.inErase_cases number f <;> rw [e]
  · exact .refl s []
  · exact h tag slot rest held (by rw [State.jobTags, hj]; rfl)

/-! ## Line events -/

theorem execResponseTimerExpiry_works {l : LineId} {s t : State} (h : execResponseTimerExpiry l s = .next t) : s.Works t := by
  cases h
  refine s.awake_works ?_
  split
  · exact s.endAttempt_works l _ _
  · exact State.updLine_works_of_same rfl rfl rfl rfl
  · exact State.updLine_works_of_same rfl rfl rfl rfl
  · exact .refl s []

theorem execFrameGapExpiry_works {l : LineId} {s t : State} (h : execFrameGapExpiry l s = .next t) : s.Works t := by
  cases h
  refine s.awake_works ?_
  split
  · split
    · exact s.breakCandidate_works l
    · exact s.setOpenFrame_works l none
  · exact .refl s []

theorem execEchoDeadlineExpiry_works {l : LineId} {s t : State} (h : execEchoDeadlineExpiry l s = .next t) : s.Works t := by
  cases h
  refine s.awake_works ?_
  split
  · exact s.echoFails_works l
  · exact .refl s []

theorem execStuckSpaceExpiry_works {l : LineId} {s t : State} (h : execStuckSpaceExpiry l s = .next t) : s.Works t := by
  cases h
  refine s.awake_works ?_
  split
  · exact s.enterFault_works l _
  · exact .refl s []

theorem execFaultRecovery_works {l : LineId} {s t : State} (h : execFaultRecovery l s = .next t) : s.Works t := by
  cases h
  refine s.awake_works ?_
  split
  · rename_i hx
    have idle : s.Works (s.updLine l fun x => { x with state := .idle, reception := none }) :=
      State.updLine_works_of_unbusy (by rw [hx.1]; rfl) rfl rfl rfl
    exact (idle.trans (State.mark_works _ _)).trans (State.askArbiter_works _ l)
  · exact .refl s []

theorem execGuardEnd_works {l : LineId} {s t : State} (h : execGuardEnd l s = .next t) : s.Works t := by
  cases h
  refine s.awake_works ?_
  split
  · split
    · rename_i t ht
      refine State.updLine_works_of_record (.inl rfl) rfl rfl fun _ => ?_
      rw [Line.flightTag_of_some ht]
      rfl
    · rename_i ht
      have idle : s.Works (s.updLine l fun x => { x with state := .idle, guardKind := none }) :=
        State.updLine_works_of_record (.inr ht) rfl rfl fun _ => .refl _
      exact idle.trans (State.askArbiter_works _ l)
  · exact .refl s []

theorem execStopBitSent_works {l : LineId} {s t : State} (h : execStopBitSent l s = .next t) : s.Works t := by
  cases h
  refine s.awake_works ?_
  dsimp only
  split
  · exact (State.updLine_works_of_same rfl rfl rfl rfl).trans (State.sendingEnds_works _ l)
  · exact .refl s []

/-- A change of the pin leaves the work of a line alone (R50). -/
theorem Line.pinChanges_work (x : Line) (mark : Bool) :
    (x.pinChanges mark).state = x.state ∧ (x.pinChanges mark).transaction = x.transaction ∧
      (x.pinChanges mark).demandQueue = x.demandQueue ∧ (x.pinChanges mark).scan = x.scan := by
  unfold Line.pinChanges
  split
  · exact ⟨rfl, rfl, rfl, rfl⟩
  · split
    · exact ⟨rfl, rfl, rfl, rfl⟩
    · split <;> exact ⟨rfl, rfl, rfl, rfl⟩

theorem execReceivePinChange_works {l : LineId} {mark : Bool} {s t : State} (h : execReceivePinChange l mark s = .next t) :
    s.Works t := by
  cases h
  split
  · obtain ⟨state, transaction, queue, scan⟩ := (s.line l).pinChanges_work mark
    exact State.updLine_works_of_same state transaction queue scan
  · exact State.updLine_works_of_same rfl rfl rfl rfl

theorem execFieldCharacterReceived_works {l : LineId} {data : Byte} {mark good : Bool} {s t : State}
    (h : execFieldCharacterReceived l data mark good s = .next t) : s.Works t := by
  cases h
  refine s.awake_works ?_
  split
  · exact .refl s []
  · exact s.takeCharacter_works l data mark good

/-! ## Time events -/

theorem execPollTimerExpiry_works {index : Nat} {s t : State} (h : execPollTimerExpiry index s = .next t) : s.Works t := by
  cases h
  refine s.awake_works (s.onNode_works index fun i n => ?_)
  split
  · exact s.timerExpires_works _ i .poll _
  · exact .refl s []

theorem execRecoveryTimerExpiry_works {index : Nat} {s t : State} (h : execRecoveryTimerExpiry index s = .next t) :
    s.Works t := by
  cases h
  refine s.awake_works (s.onNode_works index fun i n => ?_)
  split
  · exact s.timerExpires_works _ i .recovery _
  · exact .refl s []

theorem execDueTimeAdvance_works {index : Nat} {s t : State} (h : execDueTimeAdvance index s = .next t) : s.Works t := by
  cases h
  exact s.awake_works (s.onNode_works index fun i n => State.updLine_works_of_same rfl rfl rfl rfl)

theorem execSnapshotAgeOut_works {index : Nat} {s t : State} (h : execSnapshotAgeOut index s = .next t) : s.Works t := by
  cases h
  refine s.awake_works (s.onNode_works index fun i n => ?_)
  split
  · split
    · split
      · exact s.setSnapshot_works i _
      · exact .refl s []
    · exact .refl s []
  · exact .refl s []

/-! ## Store events -/

/-- The job enters VERIFY under the tag it had (R138). -/
theorem execSaveWriteCompletion_works {phase : Nat} {s t : State} (h : execSaveWriteCompletion s phase = .next t) : s.Works t := by
  cases h
  refine s.awake_works (s.inPhase_works phase _ fun tag image target generation hj => ?_)
  refine (s.setStoreSlot_works target _).trans (State.setJob_works rfl rfl rfl rfl rfl rfl rfl rfl rfl ?_)
  show (State.jobTags _).Perm [tag]
  rw [State.jobTags, State.setStoreSlot_storeJob, ← State.jobTags, hj]

theorem execSaveVerifyReadBack_works {equal : Bool} {phase : Nat} {s t : State}
    (h : execSaveVerifyReadBack equal s phase = .next t) : s.Works t := by
  cases h
  refine s.awake_works (s.inPhase_works phase _ fun tag image target generation hj => ?_)
  split
  · exact State.setJob_works rfl rfl rfl rfl rfl rfl rfl rfl rfl (.of_eq hj)
  · exact State.endSave_works hj generation false

theorem execSaveMarkWriteCompletion_works {phase : Nat} {s t : State} (h : execSaveMarkWriteCompletion s phase = .next t) :
    s.Works t := by
  cases h
  refine s.awake_works (s.inPhase_works phase _ fun tag image target generation hj => ?_)
  exact (s.setStoreSlot_works target _).trans (State.endSave_works (by rwa [State.jobTags, State.setStoreSlot_storeJob]) generation true)

theorem State.endSave_works_of_inPhase (s : State) (phase : Nat) (phases : List SavePhase) :
    s.Works (s.awake fun s => s.inPhase phase phases fun tag _ _ generation => s.endSave tag generation false) :=
  s.awake_works (s.inPhase_works phase phases fun _ _ _ generation hj => State.endSave_works hj generation false)

theorem execEraseInvalidationCompletion_works {cleared : Bool} {phase : Nat} {s t : State}
    (h : execEraseInvalidationCompletion cleared s phase = .next t) : s.Works t := by
  cases h
  refine s.awake_works (s.inErase_works phase fun tag slot rest held hj => ?_)
  have owed (u : State) (hu : u.storeJob = s.storeJob) : ([] ++ u.jobTags).Perm [tag] := by
    rw [State.jobTags, hu]
    exact .of_eq hj
  split
  · exact State.eraseNext_works (owed s rfl) rest
  · have restored (x : StoreSlot) (generation : Word) : s.Works { s.setStoreSlot slot x with generation := generation } :=
      (s.setStoreSlot_works slot x).trans (.of_fields rfl rfl rfl rfl rfl rfl rfl rfl rfl rfl)
    refine (restored _ _).trans (State.endErase_works (owed _ ?_) _)
    exact s.setStoreSlot_storeJob slot _

theorem execEraseTimerExpiry_works {phase : Nat} {s t : State} (h : execEraseTimerExpiry s phase = .next t) : s.Works t := by
  cases h
  exact s.awake_works (s.inErase_works phase fun _ _ _ _ hj => State.endErase_works (a := []) (.of_eq hj) _)

/-! ## Link events -/

/-- The request slots, their order and the link are not read by the laws of notices and tags. -/
theorem State.setSlot_keepsSingle (s : State) (id : SlotId) (x : RequestSlot) : s.KeepsSingle (s.setSlot id x) := by
  cases id <;> exact .of_fields (fun h => ⟨h.pending_once, h.queued_once⟩) rfl rfl rfl rfl

theorem State.setLink_keepsSingle (s : State) (link : LinkTransaction) (order : List SlotId) (ack : Bool) (byte : Byte) :
    s.KeepsSingle { s with link := link, slotOrder := order, linkAck := ack, linkByte := byte } :=
  .of_fields (fun h => ⟨h.pending_once, h.queued_once⟩) rfl rfl rfl rfl

theorem State.endWrite_keepsLaws {s : State} {id : SlotId} {long : Bool} (hl : s.link = .write id long) :
    s.KeepsLaws (s.endWrite id long) := by
  refine ⟨?_, fun h => (h.endWrite hl).1⟩
  unfold State.endWrite
  extract_lets u
  have ended : s.KeepsSingle u := s.setLink_keepsSingle .none _ _ _
  refine ended.trans ?_
  split
  · split
    · exact u.setSlot_keepsSingle id _
    · split
      · exact (u.setSlot_keepsSingle id _).trans (State.setLink_keepsSingle _ _ _ _ _)
      · exact (u.setSlot_keepsSingle id _).trans (State.rejectFrame_works _).toKeepsSingle
  · exact .refl u []

/-- A message that was read leaves the queue, and with it at most the notice of its subject (R150). -/
theorem State.dropHead_keepsSingle (s : State) : s.KeepsSingle { s with outbound := s.outbound.tail } :=
  .of_fields (fun h => ⟨h.pending_once, h.queued_once.sublist (s.outbound.tail_sublist.filterMap _)⟩) rfl rfl rfl rfl

theorem State.endRead_keepsLaws {s : State} {message : Option Message} {sent : Nat} (hl : s.link = .read message sent) :
    s.KeepsLaws (s.endRead message sent) := by
  refine ⟨?_, fun h => (h.endRead hl).1⟩
  unfold State.endRead
  extract_lets u
  have ended : s.KeepsSingle u := s.setLink_keepsSingle .none _ _ _
  refine ended.trans ?_
  split
  · split
    · exact u.dropHead_keepsSingle.trans (State.walk_works _).toKeepsSingle
    · exact .refl u []
  · exact .refl u []

theorem State.endLink_keepsLaws (s : State) : s.KeepsLaws s.endLink := by
  unfold State.endLink
  split
  · exact State.endWrite_keepsLaws ‹_›
  · exact State.endRead_keepsLaws ‹_›
  · exact .refl s

theorem State.storeByte_keepsLaws {s : State} {id : SlotId} {long : Bool} (hl : s.link = .write id long) (data : Byte) :
    s.KeepsLaws (s.storeByte id data) := by
  refine ⟨?_, fun h => h.storeByte hl data⟩
  unfold State.storeByte
  split
  · split
    · exact (s.setSlot_keepsSingle id _).trans (State.acknowledge_works _ _).toKeepsSingle
    · exact s.setLink_keepsSingle _ _ _ _
  · exact (s.acknowledge_works _).toKeepsSingle

theorem execWriteTransactionStart_keepsLaws {address : BitVec 7} {s t : State}
    (h : execWriteTransactionStart address s = .next t) : s.KeepsLaws t := by
  cases h
  split
  · exact (s.acknowledge_works _).keepsLaws
  · have refused := s.endLink_keepsLaws.trans (s.endLink.acknowledge_works false).keepsLaws
    dsimp only
    split
    · split
      · rename_i id hf
        refine ⟨(s.endLink_keepsLaws.toKeepsSingle.trans (State.setSlot_keepsSingle _ id _)).trans
          (State.setLink_keepsSingle _ _ _ _ _), fun h => ?_⟩
        exact (State.acknowledge_works _ _).linkInOrder (h.endLink.1.beginWrite h.endLink.2 (State.slot_of_freeSlot hf))
      · exact refused
    · exact refused

theorem execWriteDataByte_keepsLaws {data : Byte} {s t : State} (h : execWriteDataByte data s = .next t) : s.KeepsLaws t := by
  cases h
  split
  · exact State.storeByte_keepsLaws ‹_› data
  · exact (s.acknowledge_works _).keepsLaws

theorem execWriteTransactionEnd_keepsLaws {s t : State} (h : execWriteTransactionEnd s = .next t) : s.KeepsLaws t := by
  cases h
  refine s.awake_keepsLaws ?_
  split
  · exact State.endWrite_keepsLaws ‹_›
  · exact .refl s

theorem execReadTransactionStart_keepsLaws {address : BitVec 7} {s t : State}
    (h : execReadTransactionStart address s = .next t) : s.KeepsLaws t := by
  cases h
  split
  · exact (s.acknowledge_works _).keepsLaws
  · dsimp only
    split
    · refine ⟨s.endLink_keepsLaws.toKeepsSingle.trans (State.setLink_keepsSingle _ _ _ _ _), fun h => ?_⟩
      refine (State.acknowledge_works _ _).linkInOrder (h.endLink.1.relink (fun k => by cases k <;> rfl) rfl ?_ nofun ?_)
      · simp [h.endLink.2]
      · intro message sent hl
        exact (LinkTransaction.read.inj hl).1
    · exact s.endLink_keepsLaws.trans (s.endLink.acknowledge_works false).keepsLaws

theorem execReadByteClocked_keepsLaws {s t : State} (h : execReadByteClocked s = .next t) : s.KeepsLaws t := by
  cases h
  refine s.awake_keepsLaws ?_
  split
  · rename_i message sent hl
    refine ⟨s.setLink_keepsSingle _ _ _ _, fun h => h.relink (fun k => by cases k <;> rfl) rfl (by simp [hl]) nofun ?_⟩
    intro m clocked hr
    exact h.fixed m sent (by rw [hl, (LinkTransaction.read.inj hr).1])
  · exact .refl s

theorem execReadTransactionEnd_keepsLaws {s t : State} (h : execReadTransactionEnd s = .next t) : s.KeepsLaws t := by
  cases h
  refine s.awake_keepsLaws ?_
  split
  · exact State.endRead_keepsLaws ‹_›
  · exact .refl s

theorem execStallTimerExpiry_keepsLaws {s t : State} (h : execStallTimerExpiry s = .next t) : s.KeepsLaws t := by
  cases h
  refine s.awake_keepsLaws ?_
  extract_lets released
  have single : s.KeepsSingle released := s.setLink_keepsSingle _ _ _ _
  have slot (k : SlotId) : released.slot k = s.slot k := by cases k <;> rfl
  split
  · rename_i id long hl
    have rejected := State.rejectFrame_works (released.setSlot id .free)
    refine ⟨(single.trans (released.setSlot_keepsSingle id _)).trans rejected.toKeepsSingle, fun h => rejected.linkInOrder ?_⟩
    exact h.closeWrite hl (fun k hk => (released.slot_setSlot_other hk _).trans (slot k)) (by simp [released])
      (.inl ⟨released.slot_setSlot_same id _, by simp [released]⟩)
  · rename_i hl
    exact ⟨single, fun h => h.relink slot rfl (by simp [hl]) nofun nofun⟩
  · exact .refl s

/-! ## Every command -/

theorem exec_keepsLaws {c : Instr} {s t : State} (hc : resetRow c = false) (h : exec c s = .next t) : s.KeepsLaws t := by
  cases c with
  | resetRequest | powerUp | rstPinLow | resetComplete => cases hc
  | status => cases h; exact s.take_keepsLaws _ fun rq u => by split <;> exact u.answer_works rq _ _
  | lineSet =>
    cases h
    exact s.take_keepsLaws _ fun rq u => by split; exacts [u.answer_works rq _ _, u.lineSet_works rq _ _]
  | lineEnable =>
    cases h
    exact s.take_keepsLaws _ fun rq u => by split; exacts [u.answer_works rq _ _, u.lineEnable_works rq _]
  | lineDisable =>
    cases h
    exact s.take_keepsLaws _ fun rq u => by split; exacts [u.answer_works rq _ _, u.lineDisable_works rq _]
  | lineInfo =>
    cases h
    exact s.take_keepsLaws _ fun rq u => by split; exacts [u.answer_works rq _ _, u.lineInfo_works rq _ _]
  | nodeAdd =>
    cases h
    exact s.take_keepsLaws _ fun rq u => by split; exacts [u.answer_works rq _ _, u.nodeAdd_works rq _ _]
  | nodeSet =>
    cases h
    exact s.take_keepsLaws _ fun rq u => by split; exacts [u.answer_works rq _ _, u.nodeSet_works rq _ _]
  | nodeRemove =>
    cases h
    exact s.take_keepsLaws _ fun rq u => by split; exacts [u.answer_works rq _ _, u.nodeRemove_works rq _]
  | nodeEnable =>
    cases h
    exact s.take_keepsLaws _ fun rq u => by split; exacts [u.answer_works rq _ _, u.nodeEnable_works rq _]
  | nodeDisable =>
    cases h
    exact s.take_keepsLaws _ fun rq u => by split; exacts [u.answer_works rq _ _, u.nodeDisable_works rq _]
  | nodeInfo =>
    cases h
    exact s.take_keepsLaws _ fun rq u => by split; exacts [u.answer_works rq _ _, u.nodeInfo_works rq _ _]
  | readSnapshot =>
    cases h
    exact s.take_keepsLaws _ fun rq u => by split; exacts [u.answer_works rq _ _, u.readSnapshot_works rq _]
  | demand =>
    cases h
    exact s.take_keepsLaws _ fun rq u => by split; exacts [u.answer_works rq _ _, u.demand_works rq _ _]
  | broadcast =>
    cases h
    exact s.take_keepsLaws _ fun rq u => by split; exacts [u.answer_works rq _ _, u.broadcast_works rq _ _]
  | cancel =>
    cases h
    exact s.take_keepsLaws _ fun rq u => by split; exacts [u.answer_works rq _ _, u.cancel_works rq _]
  | scanStart =>
    cases h
    exact s.take_keepsLaws _ fun rq u => by split; exacts [u.answer_works rq _ _, u.scanStart_works rq _ _ _ _]
  | scanAbort =>
    cases h
    exact s.take_keepsLaws _ fun rq u => by split; exacts [u.answer_works rq _ _, u.scanAbort_works rq _]
  | storeSave =>
    cases h
    exact s.take_keepsLaws _ fun rq u => by split; exacts [u.answer_works rq _ _, u.storeSave_works rq]
  | storeErase =>
    cases h
    exact s.take_keepsLaws _ fun rq u => by split; exacts [u.answer_works rq _ _, u.storeErase_works rq]
  | unknownKind => cases h; exact s.take_keepsLaws _ fun rq u => u.queueReply_works _ _
  | writeTransactionStart => exact execWriteTransactionStart_keepsLaws h
  | writeTransactionEnd => exact execWriteTransactionEnd_keepsLaws h
  | readTransactionStart => exact execReadTransactionStart_keepsLaws h
  | readTransactionEnd => exact execReadTransactionEnd_keepsLaws h
  | stallTimerExpiry => exact execStallTimerExpiry_keepsLaws h
  | writeDataByte => exact execWriteDataByte_keepsLaws h
  | readByteClocked => exact execReadByteClocked_keepsLaws h
  | pollTimerExpiry => exact (execPollTimerExpiry_works h).keepsLaws
  | recoveryTimerExpiry => exact (execRecoveryTimerExpiry_works h).keepsLaws
  | dueTimeAdvance => exact (execDueTimeAdvance_works h).keepsLaws
  | snapshotAgeOut => exact (execSnapshotAgeOut_works h).keepsLaws
  | partTimeTick => cases h; exact (s.awake_works (.of_fields rfl rfl rfl rfl rfl rfl rfl rfl rfl rfl)).keepsLaws
  | responseTimerExpiry => exact (execResponseTimerExpiry_works h).keepsLaws
  | frameGapExpiry => exact (execFrameGapExpiry_works h).keepsLaws
  | echoDeadlineExpiry => exact (execEchoDeadlineExpiry_works h).keepsLaws
  | stuckSpaceExpiry => exact (execStuckSpaceExpiry_works h).keepsLaws
  | faultRecovery => exact (execFaultRecovery_works h).keepsLaws
  | guardEnd => exact (execGuardEnd_works h).keepsLaws
  | stopBitSent => exact (execStopBitSent_works h).keepsLaws
  | receivePinChange => exact (execReceivePinChange_works h).keepsLaws
  | fieldCharacterReceived => exact (execFieldCharacterReceived_works h).keepsLaws
  | saveWriteCompletion => exact (execSaveWriteCompletion_works h).keepsLaws
  | saveVerifyReadBack => exact (execSaveVerifyReadBack_works h).keepsLaws
  | saveMarkWriteCompletion => exact (execSaveMarkWriteCompletion_works h).keepsLaws
  | eraseInvalidationCompletion => exact (execEraseInvalidationCompletion_works h).keepsLaws
  | saveWriteTimerExpiry | saveVerifyTimerExpiry => cases h; exact (s.endSave_works_of_inPhase _ _).keepsLaws
  | eraseTimerExpiry => exact (execEraseTimerExpiry_works h).keepsLaws

end Sys2Proof.Machine
/-! SUPPORT. A reset begins with notices and tags as they are, and ends with an empty registry, the READY notice alone in the queue and
the link idle (R161). -/

namespace Sys2Proof.Machine

/-! ## A reset begins -/

theorem State.beginReset_linkInOrder (s : State) (cause : ResetCause) : (s.beginReset cause).LinkInOrder :=
  .of_agrees (fun id => by cases id <;> exact ⟨nofun, List.not_mem_nil⟩) List.nodup_nil nofun

/-! ## The part comes out of reset -/

theorem State.makeDueIfNew_works (s : State) (i : Index) : s.Works (s.makeDueIfNew i) := by
  unfold State.makeDueIfNew
  split
  · split
    · exact s.makeDue_works _ i
    · exact .refl s []
  · exact .refl s []

theorem State.makeAllDue_works (is : List Index) (s : State) : s.Works (is.foldl State.makeDueIfNew s) := by
  induction is generalizing s with
  | nil => exact .refl s []
  | cons i is ih => exact (s.makeDueIfNew_works i).trans (ih _)

/-- What follows the load only works on nodes and lines (R161). -/
theorem State.comeOut_works (s : State) (cause : ResetCause) (strap : BitVec 2) :
    (s.loaded cause strap).Works (s.comeOut cause strap) :=
  ((State.makeAllDue_works _ _).trans (State.askArbiter_works _ .a)).trans (State.askArbiter_works _ .b)

theorem State.loaded_quiet (s : State) (cause : ResetCause) (strap : BitVec 2) : (s.loaded cause strap).Quiet := fun l => by
  obtain ⟨settings, enabled, pinMark, e⟩ := s.loaded_line cause strap l
  rw [e]
  exact fun _ => rfl

/-- The load leaves no request outstanding. -/
theorem State.loaded_owes (s : State) (cause : ResetCause) (strap : BitVec 2) : (s.loaded cause strap).Owes [] :=
  ⟨List.nodup_nil, .refl _⟩

/-- READY, which alone is in the queue after the load, is the notice of no subject. -/
theorem State.loaded_single (s : State) (cause : ResetCause) (strap : BitVec 2) : (s.loaded cause strap).NoticesSingle :=
  ⟨List.nodup_nil, List.nodup_nil⟩

theorem State.loaded_linkInOrder (s : State) (cause : ResetCause) (strap : BitVec 2) : (s.loaded cause strap).LinkInOrder :=
  .of_agrees (fun id => by cases id <;> exact ⟨nofun, List.not_mem_nil⟩) List.nodup_nil nofun

theorem State.comeOut_owes (s : State) (cause : ResetCause) (strap : BitVec 2) : (s.comeOut cause strap).Owes [] :=
  (s.comeOut_works cause strap).owes (s.loaded_quiet cause strap) [] (s.loaded_owes cause strap)

theorem State.comeOut_single (s : State) (cause : ResetCause) (strap : BitVec 2) : (s.comeOut cause strap).NoticesSingle :=
  (s.comeOut_works cause strap).single (s.loaded_single cause strap)

theorem State.comeOut_linkInOrder (s : State) (cause : ResetCause) (strap : BitVec 2) : (s.comeOut cause strap).LinkInOrder :=
  (s.comeOut_works cause strap).linkInOrder (s.loaded_linkInOrder cause strap)

/-! ## Every step -/

/-- What a command does from `s`: it keeps the laws, and a reset in progress lasts; or it ends in the begin of a reset, having kept them so far;
or it ends a reset. -/
def State.CommandTo (s t : State) : Prop :=
  s.KeepsLaws t ∧ (t.resetting = none → s.resetting = none) ∨ (∃ u cause, s.KeepsLaws u ∧ t = u.beginReset cause) ∨
    ∃ cause strap, t = s.comeOut cause strap

theorem State.CommandTo.refl (s : State) : s.CommandTo s := .inl ⟨.refl s, id⟩

theorem State.CommandTo.beginReset {s u : State} (h : s.KeepsLaws u) (cause : ResetCause) : s.CommandTo (u.beginReset cause) :=
  .inr (.inl ⟨u, cause, h, rfl⟩)

theorem exec_commandTo_of_resetRow {c : Instr} {s t : State} (hc : resetRow c = true) (h : exec c s = .next t) : s.CommandTo t := by
  cases c with
  | powerUp => cases h; exact .beginReset (.refl s) _
  | rstPinLow =>
    cases h
    split
    · exact .refl s
    · exact .beginReset (.refl s) _
  | resetComplete a b =>
    cases h
    split
    · exact .inr (.inr ⟨_, _, rfl⟩)
    · exact .refl s
  | resetRequest =>
    cases h
    obtain e | ⟨id, rq, ⟨awake, hr, -, -⟩, e⟩ := s.take_cases (some .reset) _ <;> rw [e]
    · exact .refl s
    · have accepted := State.accept_keepsLaws hr
      split
      · exact .inl ⟨accepted.trans (State.answer_works _ rq _ _).keepsLaws, fun _ => awake⟩
      · exact .beginReset accepted _
  | _ => cases hc

theorem exec_commandTo {c : Instr} {s t : State} (h : exec c s = .next t) : s.CommandTo t := by
  cases hc : resetRow c with
  | true => exact exec_commandTo_of_resetRow hc h
  | false =>
    refine .inl ⟨exec_keepsLaws hc h, fun ht => ?_⟩
    by_contra hr
    obtain ⟨cause, hr⟩ := Option.ne_none_iff_exists'.mp hr
    exact exec_resetting hr (fun a b e => by rw [e] at hc; cases hc) h ht

/-- With no reply owed, the registry holds the tags of the outstanding requests (law L6). -/
theorem State.Owes.tagsAgree {s : State} (h : s.Owes []) : s.TagsAgree := fun _ => h.registered

theorem State.CommandTo.single {s t : State} (h : s.CommandTo t) (hs : s.NoticesSingle) : t.NoticesSingle := by
  obtain ⟨kept, -⟩ | ⟨u, cause, kept, e⟩ | ⟨cause, strap, e⟩ := h
  · exact kept.single hs
  · rw [e]
    exact ⟨(kept.single hs).pending_once, (kept.single hs).queued_once⟩
  · rw [e]
    exact s.comeOut_single cause strap

theorem State.CommandTo.distinct {s t : State} (h : s.CommandTo t) (hs : s.TagsDistinct) : t.TagsDistinct := by
  obtain ⟨kept, -⟩ | ⟨u, cause, kept, e⟩ | ⟨cause, strap, e⟩ := h
  · exact kept.distinct hs
  · rw [e]
    exact kept.distinct hs
  · rw [e]
    exact (s.comeOut_owes cause strap).once

theorem State.CommandTo.agree {s t : State} (h : s.CommandTo t) (lines : s.LinesInOrder) (once : s.TagsDistinct)
    (agree : s.TagsAgree) : t.TagsAgree := by
  intro ht
  obtain ⟨kept, awake⟩ | ⟨u, cause, -, e⟩ | ⟨cause, strap, e⟩ := h
  · have hs := awake ht
    exact (kept.owes (lines.quiet hs) [] ⟨once, agree hs⟩).tagsAgree ht
  · rw [e] at ht
    exact absurd ht nofun
  · rw [e]
    exact (s.comeOut_owes cause strap).tagsAgree (e ▸ ht)

theorem State.CommandTo.linkInOrder {s t : State} (h : s.CommandTo t) (hs : s.LinkInOrder) : t.LinkInOrder := by
  obtain ⟨kept, -⟩ | ⟨u, cause, -, e⟩ | ⟨cause, strap, e⟩ := h
  · exact kept.link hs
  · rw [e]
    exact u.beginReset_linkInOrder cause
  · rw [e]
    exact s.comeOut_linkInOrder cause strap

/-- Settles O58: every operation of the part moves tags between the registry, the lines and the store job so that none is owed a reply at
its end, and the link meets no other change than that of its own events; a reset starts afresh. -/
theorem noticesAndTagsStaySingle : Obligations.NoticesAndTagsStaySingle := by
  refine ⟨fun s t hs h => ?single, fun s t hs h => ?distinct, fun s t lines once agree h => ?agree, fun s t hs h => ?link⟩
  all_goals obtain rfl | ⟨c, rest, -, hc⟩ := step_cases h
  case single.inl | distinct.inl | link.inl => exact hs
  case agree.inl => exact agree
  all_goals have command := exec_commandTo hc
  case single.inr => exact command.single ⟨hs.pending_once, hs.queued_once⟩
  case distinct.inr => exact command.distinct hs
  case agree.inr => exact command.agree lines once agree
  case link.inr => exact command.linkInOrder ⟨hs.filling, hs.stored, hs.full, hs.once, hs.accepted, hs.fixed⟩

end Sys2Proof.Machine
/-! SUPPORT. DEMAND, BROADCAST and CANCEL (R109, R110, R114, R119): what each does with a ready request. -/

namespace Sys2Proof.Machine

theorem exec_demand_ready {s : State} {id : SlotId} {rq : Request} {i : Index} {op : Operation} (h : s.ready (some .demand) id rq)
    (hb : demandBody rq.body = some (i, op)) : exec .demand s = .next ((s.accept id rq).demand rq i op) := by
  show Host.Outcome.next (s.take _ _) = _
  rw [State.take_of_ready h, hb]

theorem exec_broadcast_ready {s : State} {id : SlotId} {rq : Request} {l : LineId} {op : Operation}
    (h : s.ready (some .broadcast) id rq) (hb : broadcastBody rq.body = some (l, op)) :
    exec .broadcast s = .next ((s.accept id rq).broadcast rq l op) := by
  show Host.Outcome.next (s.take _ _) = _
  rw [State.take_of_ready h, hb]

theorem exec_cancel_ready {s : State} {id : SlotId} {rq : Request} {target : Byte} (h : s.ready (some .cancel) id rq)
    (hb : cancelBody rq.body = some target) : exec .cancel s = .next ((s.accept id rq).cancel rq target) := by
  show Host.Outcome.next (s.take _ _) = _
  rw [State.take_of_ready h, hb]

/-! ## Refusals and acceptance -/

theorem Line.refusal_of_off {x : Line} (h : x.state = .off) : x.refusal = some .lineOff := by
  rw [Line.refusal, h]

theorem Line.refusal_of_fault {x : Line} (h : x.state = .fault) : x.refusal = some .lineFault := by
  rw [Line.refusal, h]

theorem Line.refusal_of_up {x : Line} (hoff : x.state ≠ .off) (hfault : x.state ≠ .fault) :
    x.refusal = if 8 ≤ x.demandQueue.length then some .queueFull else none := by
  unfold Line.refusal
  split
  · exact absurd ‹_› hoff
  · exact absurd ‹_› hfault
  all_goals rfl

theorem Node.refusal_of_offline {n : Node} (h : n.state = .offline) : n.refusal = some .nodeDown := by
  rw [Node.refusal, h]

theorem Node.refusal_of_disabled {n : Node} (h : n.state = .disabled) : n.refusal = some .nodeDisabled := by
  rw [Node.refusal, h]

theorem Node.refusal_of_served {n : Node} (h : n.state = .new ∨ n.state = .online ∨ n.state = .suspect) : n.refusal = none := by
  unfold Node.refusal
  rcases h with h | h | h <;> rw [h]

/-- A request just taken joins a demand queue; its reservation stands (R110, R114). -/
theorem State.accept_acceptDemand (s : State) (id : SlotId) (rq : Request) (l : LineId) (e : DemandEntry) :
    (s.accept id rq).acceptDemand l e = State.askArbiter
      { (s.taken id).setLine l { s.line l with demandQueue := (s.line l).demandQueue ++ [e] } with
        reserved := s.reserved + rq.reservation
        tags := s.tags ++ [e.tag] } l := by
  refine congrArg (State.askArbiter · l) ?_
  cases id <;> cases l <;> rfl

/-! ## DEMAND -/

/-- A DEMAND reserves the largest reply of its operation (R121, R155). -/
theorem demandReservation_of_body {body : List Byte} {i : Index} {op : Operation} (h : demandBody body = some (i, op)) :
    demandReservation body = op.largestReply := by
  obtain ⟨good, rfl⟩ := (demandBody_eq_some_iff body i op).mp h
  cases op with
  | ping => rfl
  | read start count => exact if_pos (inRange_eq_true_iff.mpr good)
  | write start count data =>
    obtain ⟨least, most, -⟩ := good
    exact if_pos (inRange_eq_true_iff.mpr ⟨least, most⟩)

section
variable {s : State} {rq : Request} {i : Index} {n : Node} {status : Status}

theorem State.demand_of_tag (ht : rq.tag ∈ s.tags) (op : Operation) :
    s.demand rq i op = s.answer rq .tagInUse [byteOf i, op.code] := if_pos ht

theorem State.demand_of_none (ht : rq.tag ∉ s.tags) (hn : s.liveNode i = none) (op : Operation) :
    s.demand rq i op = s.answer rq .noSuchNode [byteOf i, op.code] := by
  rw [State.demand, if_neg ht, hn]

theorem State.demand_of_node_refusal (ht : rq.tag ∉ s.tags) (hn : s.liveNode i = some n) (hr : n.refusal = some status)
    (op : Operation) : s.demand rq i op = s.answer rq status [byteOf i, op.code] := by
  simp only [State.demand, if_neg ht, hn, hr]

theorem State.demand_of_line_refusal (ht : rq.tag ∉ s.tags) (hn : s.liveNode i = some n) (hr : n.refusal = none)
    (hl : (s.line n.config.line).refusal = some status) (op : Operation) :
    s.demand rq i op = s.answer rq status [byteOf i, op.code] := by
  simp only [State.demand, if_neg ht, hn, hr, hl]

theorem State.demand_of_room (ht : rq.tag ∉ s.tags) (hn : s.liveNode i = some n) (hr : n.refusal = none)
    (hl : (s.line n.config.line).refusal = none) (op : Operation) : s.demand rq i op =
      s.acceptDemand n.config.line { tag := rq.tag, node := some i, operation := op, reserved := rq.reservation } := by
  simp only [State.demand, if_neg ht, hn, hr, hl]

end

/-- Settles O20: the cases of `State.demand`, each refusal under the reservation of the operation's largest reply. -/
theorem demandQueuedOrRefused : Obligations.DemandQueuedOrRefused := by
  intro s id rq i op hready hbody refused
  have ⟨_, _, hkind, _⟩ := hready
  have reservation : rq.reservation = op.largestReply :=
    (reservation_of_kind hkind).trans (demandReservation_of_body hbody)
  have taken := exec_demand_ready hready hbody
  have refuses {status : Status}
      (h : (s.accept id rq).demand rq i op = (s.accept id rq).answer rq status [byteOf i, op.code]) : refused status := by
    show exec .demand s = _
    rw [taken, h, State.answer, kind_of_requestKindOf hkind]
    rfl
  have tags := s.accept_tags id rq
  refine ⟨reservation, fun ht => refuses (State.demand_of_tag (tags ▸ ht) op), fun ht => ?_⟩
  rw [← tags] at ht
  simp only [← s.liveNode_accept id rq i]
  refine ⟨fun hn => refuses (State.demand_of_none ht hn op), fun n hn => ?_⟩
  have down {status : Status} (h : n.refusal = some status) : refused status :=
    refuses (State.demand_of_node_refusal ht hn h op)
  refine ⟨fun h => down (Node.refusal_of_offline h), fun h => down (Node.refusal_of_disabled h), fun served => ?_⟩
  have up := Node.refusal_of_served served
  have line := s.line_accept id rq n.config.line
  have closed {status : Status} (h : (s.line n.config.line).refusal = some status) : refused status :=
    refuses (State.demand_of_line_refusal ht hn up (line ▸ h) op)
  refine ⟨fun h => closed (Line.refusal_of_off h), fun h => closed (Line.refusal_of_fault h), fun hoff hfault => ?_⟩
  have full_or_room := Line.refusal_of_up hoff hfault
  refine ⟨fun full => closed (full_or_room.trans (if_pos full)), fun room => ?_⟩
  have admits := full_or_room.trans (if_neg room.not_ge)
  rw [taken, State.demand_of_room ht hn up (line ▸ admits), State.accept_acceptDemand, reservation]

/-! ## BROADCAST -/

section
variable {s : State} {rq : Request} {l : LineId}

theorem State.broadcast_of_tag (ht : rq.tag ∈ s.tags) (op : Operation) :
    s.broadcast rq l op = s.answer rq .tagInUse [lineCode l] := if_pos ht

theorem State.broadcast_of_refusal {status : Status} (ht : rq.tag ∉ s.tags) (hl : (s.line l).refusal = some status)
    (op : Operation) : s.broadcast rq l op = s.answer rq status [lineCode l] := by
  rw [State.broadcast, if_neg ht, hl]

theorem State.broadcast_of_room (ht : rq.tag ∉ s.tags) (hl : (s.line l).refusal = none) (op : Operation) :
    s.broadcast rq l op =
      s.acceptDemand l { tag := rq.tag, node := none, operation := op, reserved := rq.reservation } := by
  rw [State.broadcast, if_neg ht, hl]

end

/-- Settles O21: the cases of `State.broadcast`, each refusal filling its reservation of 7 bytes. -/
theorem broadcastQueuedOrRefused : Obligations.BroadcastQueuedOrRefused := by
  intro s id rq l op hready hbody x refused
  have ⟨_, _, hkind, _⟩ := hready
  have reservation : rq.reservation = 7 := (reservation_of_kind hkind).trans (broadcastReservation_of_body hbody)
  have fills : 6 + [lineCode l].length = rq.reservation := reservation.symm
  have taken := exec_broadcast_ready hready hbody
  have refuses {status : Status}
      (h : (s.accept id rq).broadcast rq l op = (s.accept id rq).answer rq status [lineCode l]) : refused status := by
    show exec .broadcast s = _
    rw [taken, h, s.accept_answer_of_kind id hkind status fills]
    rfl
  have tags := s.accept_tags id rq
  have line := s.line_accept id rq l
  refine ⟨fun ht => refuses (State.broadcast_of_tag (tags ▸ ht) op), fun ht => ?_⟩
  rw [← tags] at ht
  have closed {status : Status} (h : x.refusal = some status) : refused status :=
    refuses (State.broadcast_of_refusal ht (line ▸ h) op)
  refine ⟨fun h => closed (Line.refusal_of_off h), fun h => closed (Line.refusal_of_fault h), fun hoff hfault => ?_⟩
  have full_or_room := Line.refusal_of_up hoff hfault
  refine ⟨fun full => closed (full_or_room.trans (if_pos full)), fun room => ?_⟩
  have admits := full_or_room.trans (if_neg room.not_ge)
  rw [taken, State.broadcast_of_room ht (line ▸ admits), State.accept_acceptDemand, reservation]

/-! ## CANCEL -/

theorem Line.queued_eq_none {x : Line} {target : Byte} (h : ∀ q ∈ x.demandQueue, q.tag ≠ target) : x.queued target = none :=
  List.find?_eq_none.mpr fun q hq => by simpa using h q hq

theorem Line.queued_eq_some {x : Line} {before after : List DemandEntry} {e : DemandEntry}
    (hq : x.demandQueue = before ++ e :: after) (hbefore : ∀ q ∈ before, q.tag ≠ e.tag) : x.queued e.tag = some e :=
  List.find?_eq_some_iff_append.mpr ⟨by simp, before, after, hq, fun q hq => by simpa using hbefore q hq⟩

theorem Line.carries_iff (x : Line) (target : Byte) :
    x.carries target = true ↔ ∃ t, x.transaction = some t ∧ t.kind.tag = some target := by
  cases h : x.transaction <;> simp [Line.carries, h]

/-- The entry cancelled is the first with its tag: the queue closes up behind it (R119). -/
theorem State.cancelEntry_eq {s : State} {l : LineId} {before after : List DemandEntry} {e : DemandEntry}
    (hq : (s.line l).demandQueue = before ++ e :: after) (hbefore : ∀ q ∈ before, q.tag ≠ e.tag) :
    s.cancelEntry l e = (s.setLine l { s.line l with demandQueue := before ++ after }).replyEntry l .cancelled e := by
  have removed : (before ++ e :: after).eraseP (fun q => q.tag = e.tag) = before ++ after := by
    rw [List.eraseP_append_right _ (by simpa using hbefore), List.eraseP_cons_of_pos (by simp)]
  rw [State.cancelEntry, State.updLine, hq, removed]

theorem State.cancel_of_queued {s : State} {l : LineId} {target : Byte} {e : DemandEntry} (h : (s.line l).queued target = some e)
    (first : l = .b → s.lineA.queued target = none) (rq : Request) :
    s.cancel rq target = (s.cancelEntry l e).answer rq .ok [target] := by
  cases l with
  | a =>
    have h : s.lineA.queued target = some e := h
    rw [State.cancel, h]
  | b =>
    have h : s.lineB.queued target = some e := h
    rw [State.cancel, first rfl, h]

theorem State.cancel_of_unqueued {s : State} {target : Byte} (h : ∀ l, (s.line l).queued target = none) (rq : Request) :
    ((∃ l, (s.line l).carries target = true) → s.cancel rq target = s.answer rq .tooLate [target]) ∧
      ((∀ l, (s.line l).carries target = false) → s.cancel rq target = s.answer rq .notFound [target]) := by
  have ha : s.lineA.queued target = none := h .a
  have hb : s.lineB.queued target = none := h .b
  rw [State.cancel, ha, hb]
  refine ⟨fun ⟨l, carried⟩ => if_pos ?_, fun absent => if_neg ?_⟩
  · rw [Bool.or_eq_true]
    cases l
    · exact .inl carried
    · exact .inr carried
  · have carries_a : s.lineA.carries target = false := absent .a
    have carries_b : s.lineB.carries target = false := absent .b
    simp [carries_a, carries_b]

/-- Settles O22: the first entry with the tag leaves its queue; with no such entry, the transactions in flight decide the reply. -/
theorem cancelReachesQueuedOnly : Obligations.CancelReachesQueuedOnly := by
  intro s id rq target hready hbody reply inFlight
  have ⟨_, _, hkind, _⟩ := hready
  have reservation : rq.reservation = 7 := reservation_of_kind hkind
  have fills : 6 + [target].length = rq.reservation := reservation.symm
  have line := s.line_accept id rq
  rw [exec_cancel_ready hready ((cancelBody_eq_some_iff _ _).mpr hbody)]
  refine ⟨fun l before e after hq htag hbefore hfirst => ?queued, fun absent => ?unqueued⟩
  case queued =>
    subst htag
    have first : l = .b → (s.accept id rq).lineA.queued e.tag = none := fun hl => by
      rw [State.accept_lineA]
      exact Line.queued_eq_none (hfirst hl)
    rw [← line l] at hq
    refine ⟨_, rfl, ?_⟩
    rw [State.cancel_of_queued (Line.queued_eq_some hq hbefore) first, State.cancelEntry_eq hq hbefore,
      State.answer_exact _ hkind (congrArg _ reservation) _ fills, line l]
    cases id <;> cases l <;> rfl
  case unqueued =>
    obtain ⟨late, missing⟩ := State.cancel_of_unqueued (s := s.accept id rq) (target := target)
      (fun l => Line.queued_eq_none (line l ▸ absent l)) rq
    simp only [line, Line.carries_iff, ← Bool.not_eq_true] at late missing
    refine ⟨fun h => ?_, fun h => ?_⟩
    · rw [late h, s.accept_answer_of_kind id hkind _ fills]
      rfl
    · rw [missing h, s.accept_answer_of_kind id hkind _ fills]
      rfl

end Sys2Proof.Machine
/-! SUPPORT. SCAN START and SCAN ABORT (R123, R124, R125, R131): what each does with a ready request. -/

namespace Sys2Proof.Machine

theorem exec_scanStart_ready {s : State} {id : SlotId} {rq : Request} {l : LineId} {first last timeout : Byte}
    (h : s.ready (some .scanStart) id rq) (hb : scanStartBody rq.body = some (l, first, last, timeout)) :
    exec .scanStart s = .next ((s.accept id rq).scanStart rq l first last timeout) := by
  show Host.Outcome.next (s.take _ _) = _
  rw [State.take_of_ready h, hb]

theorem exec_scanAbort_ready {s : State} {id : SlotId} {rq : Request} {l : LineId} (h : s.ready (some .scanAbort) id rq)
    (hb : lineBody rq.body = some l) : exec .scanAbort s = .next ((s.accept id rq).scanAbort rq l) := by
  show Host.Outcome.next (s.take _ _) = _
  rw [State.take_of_ready h, hb]

/-! ## SCAN START -/

section
variable {s : State} {rq : Request} {l : LineId}

theorem State.scanStart_of_tag (ht : rq.tag ∈ s.tags) (first last timeout : Byte) :
    s.scanStart rq l first last timeout = s.answer rq .tagInUse [lineCode l] := if_pos ht

theorem State.scanStart_of_off (ht : rq.tag ∉ s.tags) (hoff : (s.line l).state = .off) (first last timeout : Byte) :
    s.scanStart rq l first last timeout = s.answer rq .lineOff [lineCode l] := by
  rw [State.scanStart, if_neg ht, if_pos hoff]

theorem State.scanStart_of_fault (ht : rq.tag ∉ s.tags) (hfault : (s.line l).state = .fault) (first last timeout : Byte) :
    s.scanStart rq l first last timeout = s.answer rq .lineFault [lineCode l] := by
  rw [State.scanStart, if_neg ht, if_neg (by simp [hfault]), if_pos hfault]

theorem State.scanStart_of_scan (ht : rq.tag ∉ s.tags) (hoff : (s.line l).state ≠ .off) (hfault : (s.line l).state ≠ .fault)
    (hscan : (s.line l).scan ≠ none) (first last timeout : Byte) :
    s.scanStart rq l first last timeout = s.answer rq .busy [lineCode l] := by
  rw [State.scanStart, if_neg ht, if_neg hoff, if_neg hfault, if_pos (Option.isSome_iff_ne_none.mpr hscan)]

theorem State.scanStart_of_free (ht : rq.tag ∉ s.tags) (hoff : (s.line l).state ≠ .off) (hfault : (s.line l).state ≠ .fault)
    (hscan : (s.line l).scan = none) (first last timeout : Byte) :
    s.scanStart rq l first last timeout = State.askArbiter
      { s.setLine l { s.line l with scan := some (ScanJob.create rq.tag first last timeout) } with tags := s.tags ++ [rq.tag] }
      l := by
  rw [State.scanStart, if_neg ht, if_neg hoff, if_neg hfault, if_neg (by simp [hscan])]
  cases l <;> rfl

end

/-- Settles O23: the cases of `State.scanStart`, each refusal under the reservation of 57 bytes of the job's reply. -/
theorem scanStartCreatesJob : Obligations.ScanStartCreatesJob := by
  intro s id rq l first last timeout hready hbody x job refused
  have ⟨_, _, hkind, _⟩ := hready
  have reservation : rq.reservation = 57 := reservation_of_kind hkind
  have taken := exec_scanStart_ready hready hbody
  have refuses {status : Status}
      (h : (s.accept id rq).scanStart rq l first last timeout = (s.accept id rq).answer rq status [lineCode l]) :
      refused status := by
    show exec .scanStart s = _
    rw [taken, h, State.answer, kind_of_requestKindOf hkind, reservation]
    rfl
  have line : (s.accept id rq).line l = x := s.line_accept id rq l
  have tags := s.accept_tags id rq
  refine ⟨fun ht => refuses (State.scanStart_of_tag (tags ▸ ht) ..), fun ht => ?_⟩
  rw [← tags] at ht
  rw [← line]
  refine ⟨fun h => refuses (State.scanStart_of_off ht h ..), fun h => refuses (State.scanStart_of_fault ht h ..),
    fun hoff hfault => ⟨fun h => refuses (State.scanStart_of_scan ht hoff hfault h ..), fun h => ?_⟩⟩
  rw [taken, State.scanStart_of_free ht hoff hfault h, ← reservation]
  cases id <;> cases l <;> rfl

/-! ## SCAN ABORT -/

/-- A job ends: it leaves its line, its tag leaves the registry, and its reply takes its reservation (R129, R130). -/
theorem State.endScan_of_job {s : State} {l : LineId} {j : ScanJob} (h : (s.line l).scan = some j) (status : Status) :
    s.endScan l status = State.queueReply
      { s.setLine l { s.line l with scan := none } with tags := s.tags.filter fun t => t ≠ j.tag } 57 (j.reply l status) := by
  rw [State.endScan, h]
  cases l <;> rfl

section
variable {s : State} {l : LineId} {j : ScanJob}

theorem State.scanAbort_of_none (h : (s.line l).scan = none) (rq : Request) :
    s.scanAbort rq l = s.answer rq .noScan [lineCode l] := by
  rw [State.scanAbort, h]

theorem State.scanAbort_between_probes (h : (s.line l).scan = some j) (hp : j.probe = none) (rq : Request) :
    s.scanAbort rq l = (s.endScan l .aborted).answer rq .ok [lineCode l] := by
  simp only [State.scanAbort, h, hp]

theorem State.scanAbort_during_probe {a : Byte} (h : (s.line l).scan = some j) (hp : j.probe = some a) (rq : Request) :
    s.scanAbort rq l =
      (s.setLine l { s.line l with scan := some { j with abort := true } }).answer rq .ok [lineCode l] := by
  simp only [State.scanAbort, h, hp]
  rfl

end

/-- Settles O24: the cases of `State.scanAbort`; the reservation of its own 7 bytes stands until the OK, while the job's reply is
queued. -/
theorem scanAbortEndsOrFlagsJob : Obligations.ScanAbortEndsOrFlagsJob := by
  intro s id rq l hready hbody x reply
  have ⟨_, _, hkind, _⟩ := hready
  have reservation : rq.reservation = 7 := reservation_of_kind hkind
  have fills : 6 + [lineCode l].length = rq.reservation := reservation.symm
  have line : (s.accept id rq).line l = x := s.line_accept id rq l
  rw [exec_scanAbort_ready hready hbody, ← line]
  refine ⟨fun h => ?absent, fun j h => ⟨fun hp => ⟨_, rfl, ?between⟩, fun a hp => ?probing⟩⟩
  case absent =>
    rw [State.scanAbort_of_none h, s.accept_answer_of_kind id hkind _ fills]
    rfl
  case between =>
    rw [State.scanAbort_between_probes h hp, State.endScan_of_job h, State.answer_exact _ hkind (congrArg _ reservation) _ fills]
    cases id <;> cases l <;> rfl
  case probing =>
    have released : ((s.accept id rq).setLine l { (s.accept id rq).line l with scan := some { j with abort := true } }).reserved -
        rq.reservation = s.reserved := by simp
    rw [State.scanAbort_during_probe h hp, State.answer_exact _ hkind released _ fills]
    cases id <;> cases l <;> rfl

end Sys2Proof.Machine
/-! SUPPORT. The events of the store jobs (R138, R139, R140): the job that an event of its own phase reaches, and how a job ends. -/

namespace Sys2Proof.Machine

/-! ## What an event reaches -/

section
variable {s : State} {tag : Byte} {phase : SavePhase} {image : Image} {target : SlotId} {generation : Word}

/-- A SAVE job meets the events of its own phase alone (R138, R142). -/
theorem State.inPhase_of_save (h : s.storeJob = some (.save tag phase image target generation)) (number : Nat)
    (phases : List SavePhase) (f : Byte → Image → SlotId → Word → State) :
    s.inPhase number phases f = if number = s.storePhases ∧ phase ∈ phases then f tag image target generation else s := by
  rw [State.inPhase, h]

theorem State.inErase_of_save (h : s.storeJob = some (.save tag phase image target generation)) (number : Nat)
    (f : Byte → SlotId → List SlotId → Bool → State) : s.inErase number f = s := by
  rw [State.inErase, h]

end

section
variable {s : State} {tag : Byte} {slot : SlotId} {rest : List SlotId} {held : Bool}

/-- An ERASE job meets the events of the invalidation it is in alone (R140, R142). -/
theorem State.inErase_of_erase (h : s.storeJob = some (.erase tag slot rest held)) (number : Nat)
    (f : Byte → SlotId → List SlotId → Bool → State) :
    s.inErase number f = if number = s.storePhases then f tag slot rest held else s := by
  rw [State.inErase, h]

theorem State.inPhase_of_erase (h : s.storeJob = some (.erase tag slot rest held)) (number : Nat) (phases : List SavePhase)
    (f : Byte → Image → SlotId → Word → State) : s.inPhase number phases f = s := by
  rw [State.inPhase, h]

end

/-! ## The end of a job -/

/-- An ERASE job ends with its reply, which fills its reservation (R140). -/
theorem State.endErase_eq (s : State) (tag : Byte) (status : Status) : s.endErase tag status = { s with
    storeJob := none, reserved := s.reserved - 6
    tags := s.tags.filter fun t => t ≠ tag
    outbound := s.outbound ++ [.reply { kind := 0xE1, tag := tag, status := status, data := [] }] } :=
  congrArg (fun u : State => { u with storeJob := none }) (State.queueReply_exact (s.dropTag tag) (reservation := 6) rfl)

/-- A SAVE job fails with its reply, which fills its reservation (R139). -/
theorem State.endSave_failed (s : State) (tag : Byte) (generation : Word) : s.endSave tag generation false = { s with
    storeJob := none, changedAfterCapture := false, reserved := s.reserved - 10
    tags := s.tags.filter fun t => t ≠ tag
    outbound := s.outbound ++
      [.reply { kind := 0xE0, tag := tag, status := .storeFailed, data := wordBytes generation }] } :=
  congrArg (fun u : State => { u with storeJob := none, changedAfterCapture := false })
    (State.queueReply_exact (s.dropTag tag) (reservation := 10) rfl)

/-- A SAVE job succeeds: its generation is the current one, and the configuration-changed flag is clear unless a change came after the
capture (R139, R141). -/
theorem State.endSave_ok (s : State) (tag : Byte) (generation : Word) : s.endSave tag generation true = { s with
    storeJob := none, changedAfterCapture := false, reserved := s.reserved - 10
    tags := s.tags.filter fun t => t ≠ tag
    outbound := s.outbound ++ [.reply { kind := 0xE0, tag := tag, status := .ok, data := wordBytes generation }]
    generation := generation
    configChanged := s.configChanged && s.changedAfterCapture } :=
  congrArg (fun u : State => { u with storeJob := none, changedAfterCapture := false })
    (State.queueReply_exact (State.dropTag { s with
      generation := generation, configChanged := s.configChanged && s.changedAfterCapture } tag) (reservation := 10) rfl)

/-! ## The rows of a job, out of reset -/

section
variable {s : State} (hs : s.resetting = none)
include hs

theorem exec_saveWriteCompletion (number : Nat) : exec (.saveWriteCompletion number) s = .next
    (s.inPhase number [.write] fun tag image target generation => State.beginPhase
      { s.setStoreSlot target { mark := false, crcGood := true, generation := generation, image := image } with
        storeJob := some (.save tag .readBack image target generation) }) := congrArg _ (State.awake_of_none hs _)

theorem exec_saveWriteTimerExpiry (number : Nat) : exec (.saveWriteTimerExpiry number) s = .next
    (s.inPhase number [.write] fun tag _ _ generation => s.endSave tag generation false) :=
  congrArg _ (State.awake_of_none hs _)

theorem exec_saveVerifyReadBack (equal : Bool) (number : Nat) : exec (.saveVerifyReadBack equal number) s = .next
    (s.inPhase number [.readBack] fun tag image target generation =>
      if equal then { s with storeJob := some (.save tag .markWrite image target generation) }
      else s.endSave tag generation false) := congrArg _ (State.awake_of_none hs _)

theorem exec_saveMarkWriteCompletion (number : Nat) : exec (.saveMarkWriteCompletion number) s = .next
    (s.inPhase number [.markWrite] fun tag _ target generation =>
      (s.setStoreSlot target { s.storeSlot target with mark := true }).endSave tag generation true) :=
  congrArg _ (State.awake_of_none hs _)

theorem exec_saveVerifyTimerExpiry (number : Nat) : exec (.saveVerifyTimerExpiry number) s = .next
    (s.inPhase number [.readBack, .markWrite] fun tag _ _ generation => s.endSave tag generation false) :=
  congrArg _ (State.awake_of_none hs _)

theorem exec_eraseInvalidationCompletion (cleared : Bool) (number : Nat) :
    exec (.eraseInvalidationCompletion cleared number) s = .next (s.inErase number fun tag slot rest held =>
      if cleared then s.eraseNext tag rest
      else State.endErase
        { s.setStoreSlot slot { s.storeSlot slot with mark := true } with
          generation := if held then (s.storeSlot slot).generation else s.generation } tag .storeFailed) :=
  congrArg _ (State.awake_of_none hs _)

theorem exec_eraseTimerExpiry (number : Nat) : exec (.eraseTimerExpiry number) s = .next
    (s.inErase number fun tag _ _ _ => s.endErase tag .storeFailed) := congrArg _ (State.awake_of_none hs _)

end

/-! ## ERASE -/

/-- The invalidation of a slot starts (R140). -/
theorem State.invalidate_eq (s : State) (tag : Byte) (slot : SlotId) (rest : List SlotId) :
    s.invalidate tag slot rest = { s.setStoreSlot slot { s.storeSlot slot with mark := false } with
      generation := if (s.storeSlot slot).generation = s.generation then 0 else s.generation
      storeJob := some (.erase tag slot rest (decide ((s.storeSlot slot).generation = s.generation)))
      storePhases := s.storePhases + 1 } := by
  simp only [State.invalidate, State.beginPhase, State.setStoreSlot_storePhases, decide_eq_true_eq]

/-- Settles O45: each row of the job's invalidation in its own phase, and the rows of a SAVE, which do not reach it. -/
theorem eraseJobInvalidates : Obligations.EraseJobInvalidates := by
  intro s tag slot rest held hs hj own ended
  have completes (cleared : Bool) := exec_eraseInvalidationCompletion hs cleared own
  have expires := exec_eraseTimerExpiry hs own
  simp only [State.inErase_of_erase hj, own, if_pos] at completes expires
  refine ⟨fun hrest => ?last, fun next others hrest => ?next, ?intact, ?expiry, fun number equal => ?ofSave⟩
  case last =>
    subst hrest
    exact (completes true).trans (congrArg _ (s.endErase_eq tag .ok))
  case next =>
    subst hrest
    exact (completes true).trans (congrArg _ (s.invalidate_eq tag next others))
  case intact =>
    rw [completes false, if_neg Bool.false_ne_true, State.endErase_eq]
    cases slot <;> rfl
  case expiry => exact expires.trans (congrArg _ (s.endErase_eq tag .storeFailed))
  case ofSave =>
    simp only [exec_saveWriteCompletion hs, exec_saveWriteTimerExpiry hs, exec_saveVerifyReadBack hs,
      exec_saveMarkWriteCompletion hs, exec_saveVerifyTimerExpiry hs, State.inPhase_of_erase hj, and_self]

end Sys2Proof.Machine
/-! SUPPORT. STORE SAVE and STORE ERASE (R137, R140): the VALID slots, and what each request does when it is ready. -/

namespace Sys2Proof.Machine

/-! ## The VALID slots, the lower generation first -/

section
variable {s : State} {low high : SlotId}

theorem State.validSlots_of_none (h : ∀ id, ¬(s.storeSlot id).valid = true) : s.validSlots = [] := by
  have h0 : s.storeSlot0.valid = false := Bool.eq_false_iff.mpr (h .s0)
  have h1 : s.storeSlot1.valid = false := Bool.eq_false_iff.mpr (h .s1)
  simp only [State.validSlots, h0, h1]

theorem State.validSlots_of_one (hne : low ≠ high) (hl : (s.storeSlot low).valid = true) (hh : ¬(s.storeSlot high).valid = true) :
    s.validSlots = [low] := by
  cases low <;> cases high
  case s0.s0 | s1.s1 => exact absurd rfl hne
  all_goals
    rw [Bool.not_eq_true] at hh
    simp only [State.storeSlot] at hl hh
    simp only [State.validSlots, hl, hh]

theorem State.validSlots_of_lt (hl : (s.storeSlot low).valid = true) (hh : (s.storeSlot high).valid = true)
    (hlt : (s.storeSlot low).generation.toNat < (s.storeSlot high).generation.toNat) : s.validSlots = [low, high] := by
  cases low <;> cases high
  case s0.s0 | s1.s1 => exact absurd hlt (lt_irrefl _)
  case s0.s1 =>
    simp only [State.storeSlot] at hl hh hlt
    simp only [State.validSlots, hl, hh, if_pos hlt]
  case s1.s0 =>
    simp only [State.storeSlot] at hl hh hlt
    simp only [State.validSlots, hl, hh, if_neg hlt.asymm]

end

/-- The newest image is in the last of the VALID slots. -/
theorem State.newestGeneration_eq (s : State) :
    s.newestGeneration = (s.validSlots.getLast?.map fun id => (s.storeSlot id).generation).getD 0 := rfl

theorem State.storeSlot_accept (s : State) (id : SlotId) (rq : Request) (slot : SlotId) :
    (s.accept id rq).storeSlot slot = s.storeSlot slot := by
  cases id <;> cases slot <;> rfl

theorem emptyBody_nil {body : List Byte} (h : body = []) : emptyBody body = some () := by
  subst h
  rfl

/-! ## STORE SAVE -/

theorem exec_storeSave_ready {s : State} {id : SlotId} {rq : Request} (h : s.ready (some .storeSave) id rq) (hb : rq.body = []) :
    exec .storeSave s = .next ((s.accept id rq).storeSave rq) := by
  show Host.Outcome.next (s.take _ _) = _
  rw [State.take_of_ready h, emptyBody_nil hb]

section
variable {s : State} {rq : Request}

theorem State.storeSave_of_tag (ht : rq.tag ∈ s.tags) : s.storeSave rq = s.answer rq .tagInUse [] := if_pos ht

theorem State.storeSave_of_busy (ht : rq.tag ∉ s.tags) (hj : s.storeJob ≠ none) : s.storeSave rq = s.answer rq .busy [] := by
  rw [State.storeSave, if_neg ht, if_pos (Option.isSome_iff_ne_none.mpr hj)]

theorem State.storeSave_of_idle (ht : rq.tag ∉ s.tags) (hj : s.storeJob = none) : s.storeSave rq = s.startSave rq.tag := by
  rw [State.storeSave, if_neg ht, if_neg (by simp [hj])]

end

/-- STORE SAVE is refused, or starts a save (R137). -/
theorem State.storeSave_cases (s : State) (rq : Request) : (∃ status, s.storeSave rq = s.answer rq status []) ∨
    rq.tag ∉ s.tags ∧ s.storeJob = none ∧ s.storeSave rq = s.startSave rq.tag := by
  by_cases ht : rq.tag ∈ s.tags
  · exact .inl ⟨_, State.storeSave_of_tag ht⟩
  · by_cases hj : s.storeJob = none
    · exact .inr ⟨ht, hj, State.storeSave_of_idle ht hj⟩
    · exact .inl ⟨_, State.storeSave_of_busy ht hj⟩

/-- The write of the target slot starts (R137, R138). -/
theorem State.startSave_writes {s : State} (h : s.newestGeneration ≠ 0xFFFFFFFF) (tag : Byte) : s.startSave tag =
    { s.setStoreSlot s.saveTarget { s.storeSlot s.saveTarget with mark := false } with
      tags := s.tags ++ [tag]
      storeJob := some (.save tag .write s.capture s.saveTarget (s.newestGeneration + 1))
      storePhases := s.storePhases + 1
      changedAfterCapture := false } := by
  rw [State.startSave, if_neg h]
  cases s.saveTarget <;> rfl

/-- A tag that is not in the registry, joining it and leaving it. -/
theorem filter_ne_snoc {tags : List Byte} {tag : Byte} (h : tag ∉ tags) : (tags ++ [tag]).filter (fun t => t ≠ tag) = tags := by
  have kept : tags.filter (fun t => t ≠ tag) = tags :=
    List.filter_eq_self.mpr fun t ht => decide_eq_true fun e : t = tag => h (e ▸ ht)
  rw [List.filter_append, kept]
  simp

/-- Without a higher generation the job ends as it is accepted (R137, R139). -/
theorem State.startSave_fails {s : State} {tag : Byte} (h : s.newestGeneration = 0xFFFFFFFF) (ht : tag ∉ s.tags)
    (hj : s.storeJob = none) : s.startSave tag = { s with
      changedAfterCapture := false, reserved := s.reserved - 10
      outbound := s.outbound ++ [.reply { kind := 0xE0, tag := tag, status := .storeFailed, data := [0, 0, 0, 0] }] } := by
  rw [State.startSave, if_pos h, State.endSave_failed]
  simp only [State.addTag, filter_ne_snoc ht, hj]
  rfl

/-- The slot that a save writes, and the newest generation it finds, by the VALID slots (R134, R137). -/
theorem State.save_choice {s : State} {target : SlotId} {newest : Word}
    (h : (¬(s.storeSlot .s0).valid = true ∧ ¬(s.storeSlot .s1).valid = true ∧ target = .s0 ∧ newest = 0) ∨
      ∃ low high, low ≠ high ∧ target = low ∧ newest = (s.storeSlot high).generation ∧ (s.storeSlot high).valid = true ∧
        (¬(s.storeSlot low).valid = true ∨
          (s.storeSlot low).valid = true ∧ (s.storeSlot low).generation.toNat < (s.storeSlot high).generation.toNat)) :
    s.saveTarget = target ∧ s.newestGeneration = newest := by
  rcases h with ⟨h0, h1, rfl, rfl⟩ | ⟨low, high, hne, rfl, rfl, hh, hl | ⟨hl, hlt⟩⟩
  · have slots := State.validSlots_of_none (s := s) fun id => by cases id <;> assumption
    simp [State.saveTarget, State.newestGeneration_eq, slots]
  · have slots := State.validSlots_of_one hne.symm hh hl
    cases target <;> cases high <;> simp_all [State.saveTarget, State.newestGeneration_eq]
  · have slots := State.validSlots_of_lt hl hh hlt
    simp [State.saveTarget, State.newestGeneration_eq, slots]

/-- Settles O25: the cases of `State.storeSave`, each reply under the reservation of 10 bytes of the job's reply. -/
theorem storeSaveStartsWrite : Obligations.StoreSaveStartsWrite := by
  intro s id rq hready hbody refused image valid generation
  have ⟨_, _, hkind, _⟩ := hready
  have reservation : rq.reservation = 10 := reservation_of_kind hkind
  have taken := exec_storeSave_ready hready hbody
  have refuses {status : Status} (h : (s.accept id rq).storeSave rq = (s.accept id rq).answer rq status []) : refused status := by
    show exec .storeSave s = _
    rw [taken, h, State.answer, kind_of_requestKindOf hkind, reservation]
    rfl
  have tags := s.accept_tags id rq
  have job := s.accept_storeJob id rq
  refine ⟨fun ht => refuses (State.storeSave_of_tag (tags ▸ ht)),
    fun ht hj => refuses (State.storeSave_of_busy (tags ▸ ht) (job ▸ hj)), fun ht hj target newest choice => ?_⟩
  rw [← tags] at ht
  rw [← job] at hj
  have capture : (s.accept id rq).capture = image := by cases id <;> rfl
  obtain ⟨htarget, hnewest⟩ : (s.accept id rq).saveTarget = target ∧ (s.accept id rq).newestGeneration = newest := by
    refine State.save_choice ?_
    simp only [State.storeSlot_accept]
    rcases choice with none_ | ⟨h0, h1, ht, hn⟩ | ⟨h0, h1, ht, hn⟩ | ⟨h0, h1, hlt, ht, hn⟩ | ⟨h0, h1, hlt, ht, hn⟩
    · exact .inl none_
    · exact .inr ⟨.s1, .s0, nofun, ht, hn, h0, .inl h1⟩
    · exact .inr ⟨.s0, .s1, nofun, ht, hn, h1, .inl h0⟩
    · exact .inr ⟨.s0, .s1, nofun, ht, hn, h1, .inr ⟨h0, hlt⟩⟩
    · exact .inr ⟨.s1, .s0, nofun, ht, hn, h0, .inr ⟨h1, hlt⟩⟩
  rw [taken, State.storeSave_of_idle ht hj]
  refine ⟨fun h => ?writes, fun h => ?fails⟩
  case writes =>
    rw [State.startSave_writes (hnewest ▸ h), htarget, hnewest, capture, ← reservation]
    cases id <;> cases target <;> rfl
  case fails =>
    have released : (s.accept id rq).reserved - 10 = s.reserved := by simp [reservation]
    rw [State.startSave_fails (hnewest.trans h) ht hj, released]
    cases id <;> rfl

/-! ## STORE ERASE -/

theorem exec_storeErase_ready {s : State} {id : SlotId} {rq : Request} (h : s.ready (some .storeErase) id rq) (hb : rq.body = []) :
    exec .storeErase s = .next ((s.accept id rq).storeErase rq) := by
  show Host.Outcome.next (s.take _ _) = _
  rw [State.take_of_ready h, emptyBody_nil hb]

section
variable {s : State} {rq : Request}

theorem State.storeErase_of_tag (ht : rq.tag ∈ s.tags) : s.storeErase rq = s.answer rq .tagInUse [] := if_pos ht

theorem State.storeErase_of_busy (ht : rq.tag ∉ s.tags) (hj : s.storeJob ≠ none) : s.storeErase rq = s.answer rq .busy [] := by
  rw [State.storeErase, if_neg ht, if_pos (Option.isSome_iff_ne_none.mpr hj)]

theorem State.storeErase_of_idle (ht : rq.tag ∉ s.tags) (hj : s.storeJob = none) :
    s.storeErase rq = (s.addTag rq.tag).eraseNext rq.tag s.validSlots := by
  rw [State.storeErase, if_neg ht, if_neg (by simp [hj])]

end

/-- STORE ERASE is refused, or starts an erase (R140). -/
theorem State.storeErase_cases (s : State) (rq : Request) : (∃ status, s.storeErase rq = s.answer rq status []) ∨
    s.storeJob = none ∧ s.storeErase rq = (s.addTag rq.tag).eraseNext rq.tag s.validSlots := by
  by_cases ht : rq.tag ∈ s.tags
  · exact .inl ⟨_, State.storeErase_of_tag ht⟩
  · by_cases hj : s.storeJob = none
    · exact .inr ⟨hj, State.storeErase_of_idle ht hj⟩
    · exact .inl ⟨_, State.storeErase_of_busy ht hj⟩

/-- Without a VALID slot the job ends as it is accepted (R140). -/
theorem State.eraseNext_nil_of_new {s : State} {tag : Byte} (ht : tag ∉ s.tags) (hj : s.storeJob = none) :
    (s.addTag tag).eraseNext tag [] = { s with
      reserved := s.reserved - 6
      outbound := s.outbound ++ [.reply { kind := 0xE1, tag := tag, status := .ok, data := [] }] } := by
  rw [State.eraseNext, State.endErase_eq]
  simp only [State.addTag, filter_ne_snoc ht, hj]

/-- Settles O26: the cases of `State.storeErase`, each reply filling its reservation of 6 bytes. -/
theorem storeEraseStartsInvalidation : Obligations.StoreEraseStartsInvalidation := by
  intro s id rq hready hbody reply valid generation
  have ⟨_, _, hkind, _⟩ := hready
  have reservation : rq.reservation = 6 := reservation_of_kind hkind
  have taken := exec_storeErase_ready hready hbody
  have refuses {status : Status} (h : (s.accept id rq).storeErase rq = (s.accept id rq).answer rq status []) : reply status := by
    show exec .storeErase s = _
    rw [taken, h, s.accept_answer_of_kind id hkind _ (data := []) reservation.symm]
    rfl
  have tags := s.accept_tags id rq
  have job := s.accept_storeJob id rq
  refine ⟨fun ht => refuses (State.storeErase_of_tag (tags ▸ ht)),
    fun ht hj => refuses (State.storeErase_of_busy (tags ▸ ht) (job ▸ hj)),
    fun ht hj => ⟨fun h0 h1 => ?none, fun slot rest choice => ?first⟩⟩
  all_goals have idle := State.storeErase_of_idle (s := s.accept id rq) (tags ▸ ht) (job ▸ hj)
  all_goals have same : (s.accept id rq).validSlots = s.validSlots := by cases id <;> rfl
  case none =>
    have slots : s.validSlots = [] := State.validSlots_of_none fun id => by cases id <;> assumption
    have released : (s.accept id rq).reserved - 6 = s.reserved := by simp [reservation]
    show exec .storeErase s = _
    rw [taken, idle, same, slots, State.eraseNext_nil_of_new (tags ▸ ht) (job ▸ hj), released]
    cases id <;> rfl
  case first =>
    have slots : s.validSlots = slot :: rest := by
      rcases choice with ⟨h0, h1, rfl, rfl⟩ | ⟨h0, h1, rfl, rfl⟩ | ⟨h0, h1, hlt, rfl, rfl⟩ | ⟨h0, h1, hlt, rfl, rfl⟩
      · exact State.validSlots_of_one (high := .s1) nofun h0 h1
      · exact State.validSlots_of_one (high := .s0) nofun h1 h0
      · exact State.validSlots_of_lt h0 h1 hlt
      · exact State.validSlots_of_lt h1 h0 hlt
    rw [taken, idle, same, slots, State.eraseNext, State.invalidate_eq, ← reservation]
    cases id <;> cases slot <;> rfl

end Sys2Proof.Machine
/-! SUPPORT. What the store jobs work on, with the line settings that a save would capture: no operation of the part moves it but those
of the store jobs themselves, LINE SET and the end of a reset (R67, R138, R140, R142). -/

namespace Sys2Proof.Machine

/-! ## The view -/

/-- The store job, the count of its phases, the image slots, the current generation, and the settings of the lines. -/
structure StoreView where
  job : Option StoreJob
  phases : Nat
  slot : SlotId → StoreSlot
  generation : Word
  settings : LineId → LineSettings

def State.storeView (s : State) : StoreView where
  job := s.storeJob
  phases := s.storePhases
  slot := s.storeSlot
  generation := s.generation
  settings := fun l => (s.line l).settings

theorem State.storeView_congr {s t : State} (hj : t.storeJob = s.storeJob) (hp : t.storePhases = s.storePhases)
    (h0 : t.storeSlot0 = s.storeSlot0) (h1 : t.storeSlot1 = s.storeSlot1) (hg : t.generation = s.generation)
    (hl : ∀ l, (t.line l).settings = (s.line l).settings) : t.storeView = s.storeView := by
  have slot : t.storeSlot = s.storeSlot := funext fun id => by cases id <;> assumption
  simp only [State.storeView, hj, hp, slot, hg, hl]

theorem QueueOnly.storeView {s t : State} (h : QueueOnly s t) : t.storeView = s.storeView :=
  State.storeView_congr h.storeJob h.storePhases h.storeSlot0 h.storeSlot1 h.generation fun l => by rw [h.line l]

/-! ## Updates of a line -/

@[simp] theorem Line.setPollTimer_settings (x : Line) (i : Index) (due : Option Word) :
    (x.setPollTimer i due).settings = x.settings := by cases x; rfl
@[simp] theorem Line.setRecoveryTimer_settings (x : Line) (i : Index) (due : Option Word) :
    (x.setRecoveryTimer i due).settings = x.settings := by cases x; rfl
@[simp] theorem Line.joinDueList_settings (x : Line) (e : DueEntry) : (x.joinDueList e).settings = x.settings := by cases x; rfl
@[simp] theorem Line.unschedule_settings (x : Line) (i : Index) : (x.unschedule i).settings = x.settings := by cases x; rfl
@[simp] theorem Line.enterGuard_settings (x : Line) (kind : GuardKind) : (x.enterGuard kind).settings = x.settings := by cases x; rfl
@[simp] theorem Line.leaveService_settings (x : Line) (state : LineState) : (x.leaveService state).settings = x.settings := by cases x; rfl
@[simp] theorem Line.startAttempt_settings (x : Line) (t : Transaction) : (x.startAttempt t).settings = x.settings := by cases x; rfl
@[simp] theorem Line.finishReception_settings (x : Line) (good : Bool) : (x.finishReception good).settings = x.settings := by cases x; rfl
@[simp] theorem Line.pinChanges_settings (x : Line) (mark : Bool) : (x.pinChanges mark).settings = x.settings := by
  unfold Line.pinChanges
  split
  · rfl
  · split
    · rfl
    · split <;> rfl

@[simp] theorem Line.endsAttempt_settings (x : Line) (t : Transaction) (o : FieldOutcome) (kind : GuardKind) :
    (x.endsAttempt t o kind).settings = x.settings := by cases x; rfl

@[simp] theorem State.updLine_storeView {s : State} {l : LineId} {f : Line → Line}
    (h : (f (s.line l)).settings = (s.line l).settings) : (s.updLine l f).storeView = s.storeView :=
  State.storeView_congr (by simp) (by simp) (by simp) (by simp) (by simp) fun k => by
    by_cases hk : k = l
    · rw [hk, State.line_updLine_same, h]
    · rw [State.line_updLine_other s f hk]

theorem State.setLine_storeView {s : State} {l : LineId} {x : Line} (h : x.settings = (s.line l).settings) :
    (s.setLine l x).storeView = s.storeView := State.updLine_storeView (f := fun _ => x) h

/-! ## Nodes, slots, tags and messages -/

@[simp] theorem State.setNode_storeView (s : State) (i : Index) (m : Option Node) : (s.setNode i m).storeView = s.storeView := rfl
@[simp] theorem State.setSnapshot_storeView (s : State) (i : Index) (x : Option Snapshot) :
    (s.setSnapshot i x).storeView = s.storeView := rfl
@[simp] theorem State.reportChange_storeView (s : State) : s.reportChange.storeView = s.storeView := rfl
@[simp] theorem State.setSlot_storeView (s : State) (id : SlotId) (x : RequestSlot) : (s.setSlot id x).storeView = s.storeView := by
  cases id <;> rfl
@[simp] theorem State.accept_storeView (s : State) (id : SlotId) (rq : Request) : (s.accept id rq).storeView = s.storeView := by
  cases id <;> rfl
@[simp] theorem State.addTag_storeView (s : State) (tag : Byte) : (s.addTag tag).storeView = s.storeView := rfl
@[simp] theorem State.dropTag_storeView (s : State) (tag : Byte) : (s.dropTag tag).storeView = s.storeView := rfl
@[simp] theorem State.mark_storeView (s : State) (sub : Subject) : (s.mark sub).storeView = s.storeView :=
  (s.mark_queueOnly sub).storeView
@[simp] theorem State.walk_storeView (s : State) : s.walk.storeView = s.storeView := s.walk_queueOnly.storeView
@[simp] theorem State.withdraw_storeView (s : State) (i : Index) : (s.withdraw i).storeView = s.storeView :=
  (s.withdraw_queueOnly i).storeView
@[simp] theorem State.rejectFrame_storeView (s : State) : s.rejectFrame.storeView = s.storeView :=
  s.rejectFrame_queueOnly.storeView
@[simp] theorem State.queueReply_storeView (s : State) (n : Nat) (r : Reply) : (s.queueReply n r).storeView = s.storeView :=
  (s.queueReply_queueOnly n r).storeView
@[simp] theorem State.answer_storeView (s : State) (rq : Request) (status : Status) (data : List Byte) :
    (s.answer rq status data).storeView = s.storeView := (s.answer_queueOnly rq status data).storeView
@[simp] theorem State.replyEntry_storeView (s : State) (l : LineId) (status : Status) (e : DemandEntry) :
    (s.replyEntry l status e).storeView = s.storeView := (s.replyEntry_queueOnly l status e).storeView
@[simp] theorem State.endScan_storeView (s : State) (l : LineId) (status : Status) :
    (s.endScan l status).storeView = s.storeView := by
  rw [(s.endScan_settles l status).posts.core.storeView]
  simp
@[simp] theorem State.purge_storeView (s : State) (l : LineId) (i : Index) (status : Status) :
    (s.purge l i status).storeView = s.storeView := by
  rw [(s.purge_settles l i status).posts.core.storeView]
  simp
@[simp] theorem State.flush_storeView (s : State) (l : LineId) (status : Status) :
    (s.flush l status).storeView = s.storeView := by
  rw [(s.flush_settles l status).posts.core.storeView]
  simp

/-! ## Outcomes -/

@[simp] theorem State.makeDue_storeView (s : State) (l : LineId) (i : Index) : (s.makeDue l i).storeView = s.storeView :=
  State.updLine_storeView rfl
@[simp] theorem State.armRecovery_storeView (s : State) (l : LineId) (i : Index) : (s.armRecovery l i).storeView = s.storeView :=
  State.updLine_storeView rfl
@[simp] theorem State.goOffline_storeView (s : State) (l : LineId) (i : Index) (n : Node) :
    (s.goOffline l i n).storeView = s.storeView := by simp [State.goOffline]

@[simp] theorem State.applyService_storeView (s : State) (l : LineId) (i : Index) (n : Node) (o : FieldOutcome) :
    (s.applyService l i n o).storeView = s.storeView := by
  cases o with
  | ok content => rw [State.applyService_ok]; split <;> simp
  | exception reason => rw [State.applyService_exception]; split <;> simp
  | timeout | corrupt => simp only [State.applyService]; split <;> simp
  | collision | lineOff | lineFault => rfl

@[simp] theorem State.comeBack_storeView (s : State) (l : LineId) (i : Index) (n : Node) :
    (s.comeBack l i n).storeView = s.storeView := by simp [State.comeBack_eq]

@[simp] theorem State.applyProbe_storeView (s : State) (l : LineId) (i : Index) (n : Node) (o : FieldOutcome) :
    (s.applyProbe l i n o).storeView = s.storeView := by
  cases o <;> simp [State.applyProbe]

@[simp] theorem State.applyOutcome_storeView (s : State) (l : LineId) (i : Index) (probe : Bool) (o : FieldOutcome) :
    (s.applyOutcome l i probe o).storeView = s.storeView := by
  unfold State.applyOutcome
  split
  · rfl
  · split
    · rfl
    · simp
    · split <;> simp

@[simp] theorem State.countAttempt_storeView (s : State) (i : Index) (o : FieldOutcome) :
    (s.countAttempt i o).storeView = s.storeView := by
  rcases s.countAttempt_cases i o with h | ⟨n, c, -, -, h⟩ <;> rw [h]
  exact s.setNode_storeView i _

@[simp] theorem State.countFlight_storeView (s : State) (k : TransactionKind) (o : FieldOutcome) :
    (s.countFlight k o).storeView = s.storeView := by
  unfold State.countFlight
  split
  · exact s.countAttempt_storeView _ o
  · rfl

@[simp] theorem State.rearmPoll_storeView (s : State) (l : LineId) (i : Index) (due : Word) :
    (s.rearmPoll l i due).storeView = s.storeView := by
  unfold State.rearmPoll
  dsimp only
  split
  · rfl
  · split <;> simp

@[simp] theorem State.storeSnapshot_storeView (s : State) (i : Index) (payload : List Byte) :
    (s.storeSnapshot i payload).storeView = s.storeView := by
  obtain ⟨x, h | h⟩ := s.storeSnapshot_cases i payload <;> simp [h]

@[simp] theorem State.afterPoll_storeView (s : State) (l : LineId) (i : Index) (due : Word) (o : FieldOutcome) :
    (s.afterPoll l i due o).storeView = s.storeView := by
  cases o with
  | ok | exception | collision => simp [State.afterPoll]
  | timeout | corrupt => simp only [State.afterPoll]; split <;> simp
  | lineOff | lineFault => exact State.updLine_storeView rfl

@[simp] theorem State.scanResult_storeView (s : State) (l : LineId) (address : Byte) (o : FieldOutcome) :
    (s.scanResult l address o).storeView = s.storeView := by
  unfold State.scanResult
  dsimp only
  split
  · rfl
  · split
    · simp
    · split <;> simp

@[simp] theorem State.deliver_storeView (s : State) (l : LineId) (t : Transaction) (o : FieldOutcome) :
    (s.deliver l t o).storeView = s.storeView := by
  unfold State.deliver
  split
  · split <;> simp
  all_goals simp

/-! ## The arbiter -/

theorem State.startOnNode_storeView {s : State} {l : LineId} {leave : Line → Line}
    (h : (leave (s.line l)).settings = (s.line l).settings) (i : Index) (n : Node) (kind : TransactionKind) (op : Operation)
    (allowed : Nat) : (s.startOnNode l i n kind op allowed leave).storeView = s.storeView := by
  simp [State.startOnNode, h]

theorem State.startOnLine_storeView {s : State} {l : LineId} {leave : Line → Line}
    (h : (leave (s.line l)).settings = (s.line l).settings) (kind : TransactionKind) (target : Byte) (op : Operation)
    (timeout : Option Byte) : (s.startOnLine l kind target op timeout leave).storeView = s.storeView :=
  State.updLine_storeView h

@[simp] theorem State.startDemand_storeView (s : State) (l : LineId) (e : DemandEntry) (rest : List DemandEntry) :
    (s.startDemand l e rest).storeView = s.storeView := by
  unfold State.startDemand
  split
  · exact State.startOnLine_storeView rfl ..
  · split
    · rfl
    · exact State.startOnNode_storeView rfl ..

@[simp] theorem State.startDue_storeView (s : State) (l : LineId) (e : DueEntry) (rest : List DueEntry) :
    (s.startDue l e rest).storeView = s.storeView := by
  unfold State.startDue
  split
  · rfl
  · split
    · exact State.startOnNode_storeView rfl ..
    · split
      · rfl
      · exact State.startOnNode_storeView rfl ..

@[simp] theorem State.startScanProbe_storeView (s : State) (l : LineId) (j : ScanJob) :
    (s.startScanProbe l j).storeView = s.storeView := by
  unfold State.startScanProbe
  dsimp only
  split
  · simp
  · exact State.startOnLine_storeView rfl ..

@[simp] theorem State.askArbiter_storeView (s : State) (l : LineId) : (s.askArbiter l).storeView = s.storeView := by
  unfold State.askArbiter State.choose
  split
  · split
    · simp
    · split <;> simp
    · simp
    · simp
    · rfl
  · rfl

@[simp] theorem State.makeDueNow_storeView (s : State) (l : LineId) (i : Index) : (s.makeDueNow l i).storeView = s.storeView := by
  simp [State.makeDueNow]

@[simp] theorem State.timerExpires_storeView (s : State) (l : LineId) (i : Index) (kind : DueKind) (due : Word) :
    (s.timerExpires l i kind due).storeView = s.storeView := by
  cases kind <;> simp [State.timerExpires]

/-! ## The Line Engine -/

@[simp] theorem State.endAttempt_storeView (s : State) (l : LineId) (o : FieldOutcome) (kind : GuardKind) :
    (s.endAttempt l o kind).storeView = s.storeView := by
  cases ht : (s.line l).transaction with
  | none => rw [State.endAttempt, ht]
  | some t => rw [State.endAttempt_of_some ht]; split <;> simp

@[simp] theorem State.endTransaction_storeView (s : State) (l : LineId) (o : FieldOutcome) :
    (s.endTransaction l o).storeView = s.storeView := by
  unfold State.endTransaction
  split <;> simp

@[simp] theorem State.enterFault_storeView (s : State) (l : LineId) (cause : FaultCause) :
    (s.enterFault l cause).storeView = s.storeView := by simp [State.enterFault]
@[simp] theorem State.enterOff_storeView (s : State) (l : LineId) : (s.enterOff l).storeView = s.storeView := by
  simp [State.enterOff]

@[simp] theorem State.echoFails_storeView (s : State) (l : LineId) : (s.echoFails l).storeView = s.storeView := by
  unfold State.echoFails
  dsimp only
  split <;> simp

@[simp] theorem State.sendingEnds_storeView (s : State) (l : LineId) : (s.sendingEnds l).storeView = s.storeView := by
  obtain h | ⟨t, -, -, -, ⟨-, h⟩ | ⟨-, -, h⟩ | ⟨-, -, h⟩⟩ := s.sendingEnds_cases l <;> simp [h]

@[simp] theorem State.takeEcho_storeView (s : State) (l : LineId) (begun : Nat) (data : Byte) (mark good : Bool) :
    (s.takeEcho l begun data mark good).storeView = s.storeView := by
  unfold State.takeEcho
  dsimp only
  split <;> simp

@[simp] theorem State.countLine_storeView (s : State) (l : LineId) (f : LineCounters → LineCounters) :
    (s.countLine l f).storeView = s.storeView := State.updLine_storeView rfl
@[simp] theorem State.setOpenFrame_storeView (s : State) (l : LineId) (frame : Option (List Byte)) :
    (s.setOpenFrame l frame).storeView = s.storeView := State.updLine_storeView rfl
@[simp] theorem State.openStray_storeView (s : State) (l : LineId) (data : Byte) :
    (s.openStray l data).storeView = s.storeView := by simp [State.openStray]

@[simp] theorem State.takeOutside_storeView (s : State) (l : LineId) (data : Byte) (mark good : Bool) :
    (s.takeOutside l data mark good).storeView = s.storeView := by
  unfold State.takeOutside
  split
  · split
    · simp
    · split
      · simp
      · split <;> simp
  · simp

@[simp] theorem State.takeWaiting_storeView (s : State) (l : LineId) (t : Transaction) (data : Byte) (mark good : Bool) :
    (s.takeWaiting l t data mark good).storeView = s.storeView := by
  unfold State.takeWaiting
  split <;> simp

@[simp] theorem State.discardCandidate_storeView (s : State) (l : LineId) : (s.discardCandidate l).storeView = s.storeView := by
  unfold State.discardCandidate
  dsimp only
  split <;> simp

@[simp] theorem State.breakCandidate_storeView (s : State) (l : LineId) : (s.breakCandidate l).storeView = s.storeView := by
  simp [State.breakCandidate]

@[simp] theorem State.takeReceiving_storeView (s : State) (l : LineId) (t : Transaction) (data : Byte) (mark good : Bool) :
    (s.takeReceiving l t data mark good).storeView = s.storeView := by
  unfold State.takeReceiving
  split
  · split
    · simp
    · split
      · simp
      · simp
      · split <;> simp
  · simp

@[simp] theorem State.takeCharacter_storeView (s : State) (l : LineId) (data : Byte) (mark good : Bool) :
    (s.takeCharacter l data mark good).storeView = s.storeView := by
  unfold State.takeCharacter
  dsimp only
  split <;> simp

/-! ## The owners of the requests -/

@[simp] theorem State.lineEnable_storeView (s : State) (rq : Request) (l : LineId) :
    (s.lineEnable rq l).storeView = s.storeView := by
  unfold State.lineEnable
  dsimp only
  split <;> simp

@[simp] theorem State.lineDisable_storeView (s : State) (rq : Request) (l : LineId) :
    (s.lineDisable rq l).storeView = s.storeView := by
  unfold State.lineDisable
  split <;> simp

@[simp] theorem State.lineInfo_storeView (s : State) (rq : Request) (l : LineId) (clear : Bool) :
    (s.lineInfo rq l clear).storeView = s.storeView := by
  rw [State.lineInfo_eq, State.answer_storeView]
  exact State.setLine_storeView rfl

@[simp] theorem State.nodeAdd_storeView (s : State) (rq : Request) (c : NodeConfig) (startDisabled : Bool) :
    (s.nodeAdd rq c startDisabled).storeView = s.storeView := by
  unfold State.nodeAdd
  dsimp only
  split
  · simp
  · split
    · simp
    · split <;> simp

@[simp] theorem State.nodeSet_storeView (s : State) (rq : Request) (i : Index) (c : NodeConfig) :
    (s.nodeSet rq i c).storeView = s.storeView := by
  obtain ⟨status, data, e⟩ | ⟨n, -, -, -, -, e⟩ := s.nodeSet_cases rq i c <;> rw [e]
  · exact s.answer_storeView rq status data
  · unfold State.configured
    split <;> simp

@[simp] theorem State.nodeRemove_storeView (s : State) (rq : Request) (i : Index) :
    (s.nodeRemove rq i).storeView = s.storeView := by
  unfold State.nodeRemove
  dsimp only
  split
  · simp
  · split <;> simp

@[simp] theorem State.nodeEnable_storeView (s : State) (rq : Request) (i : Index) :
    (s.nodeEnable rq i).storeView = s.storeView := by
  unfold State.nodeEnable
  dsimp only
  split
  · simp
  · split
    · split <;> simp
    · simp

@[simp] theorem State.nodeDisable_storeView (s : State) (rq : Request) (i : Index) :
    (s.nodeDisable rq i).storeView = s.storeView := by
  unfold State.nodeDisable
  dsimp only
  split
  · simp
  · split <;> simp

@[simp] theorem State.nodeInfo_storeView (s : State) (rq : Request) (i : Index) (clear : Bool) :
    (s.nodeInfo rq i clear).storeView = s.storeView := by
  unfold State.nodeInfo
  split
  · simp
  · cases clear <;> simp

@[simp] theorem State.readSnapshot_storeView (s : State) (rq : Request) (i : Index) :
    (s.readSnapshot rq i).storeView = s.storeView := by
  unfold State.readSnapshot
  split <;> simp

@[simp] theorem State.acceptDemand_storeView (s : State) (l : LineId) (e : DemandEntry) :
    (s.acceptDemand l e).storeView = s.storeView := by simp [State.acceptDemand]

@[simp] theorem State.demand_storeView (s : State) (rq : Request) (i : Index) (op : Operation) :
    (s.demand rq i op).storeView = s.storeView := by
  unfold State.demand
  dsimp only
  split
  · simp
  · split
    · simp
    · split
      · simp
      · split <;> simp

@[simp] theorem State.broadcast_storeView (s : State) (rq : Request) (l : LineId) (op : Operation) :
    (s.broadcast rq l op).storeView = s.storeView := by
  unfold State.broadcast
  split
  · simp
  · split <;> simp

@[simp] theorem State.cancelEntry_storeView (s : State) (l : LineId) (e : DemandEntry) :
    (s.cancelEntry l e).storeView = s.storeView := by simp [State.cancelEntry]

@[simp] theorem State.cancel_storeView (s : State) (rq : Request) (target : Byte) :
    (s.cancel rq target).storeView = s.storeView := by
  unfold State.cancel
  split
  · simp
  · simp
  · split <;> simp

@[simp] theorem State.scanStart_storeView (s : State) (rq : Request) (l : LineId) (first last timeout : Byte) :
    (s.scanStart rq l first last timeout).storeView = s.storeView := by
  unfold State.scanStart
  split
  · simp
  · split
    · simp
    · split
      · simp
      · split <;> simp

@[simp] theorem State.scanAbort_storeView (s : State) (rq : Request) (l : LineId) :
    (s.scanAbort rq l).storeView = s.storeView := by
  unfold State.scanAbort
  split
  · simp
  · split <;> simp

/-! ## The host link -/

@[simp] theorem State.acknowledge_storeView (s : State) (ack : Bool) : (s.acknowledge ack).storeView = s.storeView := rfl

@[simp] theorem State.endWrite_storeView (s : State) (id : SlotId) (overLength : Bool) :
    (s.endWrite id overLength).storeView = s.storeView := by
  have released : State.storeView { s with link := .none } = s.storeView := rfl
  unfold State.endWrite
  dsimp only
  split
  · split
    · simp [released]
    · split
      · cases id <;> rfl
      · simp [released]
  · rfl

@[simp] theorem State.endRead_storeView (s : State) (message : Option Message) (sent : Nat) :
    (s.endRead message sent).storeView = s.storeView := by
  unfold State.endRead
  dsimp only
  split
  · split
    · exact State.walk_storeView _
    · rfl
  · rfl

@[simp] theorem State.endLink_storeView (s : State) : s.endLink.storeView = s.storeView := by
  unfold State.endLink
  split <;> simp

@[simp] theorem State.storeByte_storeView (s : State) (id : SlotId) (data : Byte) :
    (s.storeByte id data).storeView = s.storeView := by
  unfold State.storeByte
  split
  · split
    · simp
    · rfl
  · rfl

end Sys2Proof.Machine
/-! SUPPORT. No row moves what the store jobs work on but those of the store, LINE SET and the rows of a reset (R138, R142). -/

namespace Sys2Proof.Machine

/-! ## The shapes of rows -/

/-- A row that takes a request moves the store's view only if its owner's rule does. -/
theorem State.take_storeView (s : State) (k : Option RequestKind) {owner : Request → State → State}
    (h : ∀ rq u, (owner rq u).storeView = u.storeView) : (s.take k owner).storeView = s.storeView :=
  State.take_elim (p := fun t => t.storeView = s.storeView) k rfl fun id rq => (h rq _).trans (s.accept_storeView id rq)

/-- An event of a part out of reset moves the store's view only if its function does. -/
theorem State.awake_storeView {s : State} {f : State → State} (h : (f s).storeView = s.storeView) :
    (s.awake f).storeView = s.storeView := by
  obtain e | ⟨-, e⟩ := s.awake_cases f <;> rw [e]
  exact h

theorem State.onNode_storeView {s : State} {f : Index → Node → State} (h : ∀ i n, (f i n).storeView = s.storeView)
    (index : Nat) : (s.onNode index f).storeView = s.storeView := by
  obtain e | ⟨i, n, -, e⟩ := s.onNode_cases index f <;> rw [e]
  exact h i n

/-! ## The rows -/

/-- The rows that may move what the store jobs work on, or the settings: those of the store and its requests, LINE SET, and those of a
reset. -/
def storeRow : Instr → Bool
  | .lineSet | .storeSave | .storeErase => true
  | .resetRequest | .powerUp | .rstPinLow | .resetComplete _ _ => true
  | c => (phaseOfRow c).isSome

theorem execGuardEnd_storeView {l : LineId} {s t : State} (h : execGuardEnd l s = .next t) : t.storeView = s.storeView := by
  cases h
  refine State.awake_storeView ?_
  split
  · split <;> simp
  · rfl

theorem execWriteTransactionStart_storeView {address : BitVec 7} {s t : State}
    (h : execWriteTransactionStart address s = .next t) : t.storeView = s.storeView := by
  cases h
  split
  · rfl
  · refine Eq.trans ?_ s.endLink_storeView
    dsimp only
    split
    · split
      · exact State.setSlot_storeView _ _ _
      · rfl
    · rfl

theorem execReadTransactionStart_storeView {address : BitVec 7} {s t : State}
    (h : execReadTransactionStart address s = .next t) : t.storeView = s.storeView := by
  cases h
  split
  · rfl
  · refine Eq.trans ?_ s.endLink_storeView
    dsimp only
    split <;> rfl

theorem execStallTimerExpiry_storeView {s t : State} (h : execStallTimerExpiry s = .next t) : t.storeView = s.storeView := by
  cases h
  refine State.awake_storeView ?_
  dsimp only
  split
  · exact (State.rejectFrame_storeView _).trans (State.setSlot_storeView _ _ _)
  · rfl
  · rfl

theorem execSnapshotAgeOut_storeView {index : Nat} {s t : State} (h : execSnapshotAgeOut index s = .next t) :
    t.storeView = s.storeView := by
  cases h
  refine State.awake_storeView (State.onNode_storeView (fun i _ => ?_) index)
  split
  · split
    · split <;> simp
    · rfl
  · rfl

/-- A row of another block leaves the store's view alone (R138, R142). -/
theorem exec_storeView {c : Instr} {s t : State} (hc : storeRow c = false) (h : exec c s = .next t) :
    t.storeView = s.storeView := by
  cases c with
  | lineSet | storeSave | storeErase | resetRequest | powerUp | rstPinLow | resetComplete => cases hc
  | saveWriteCompletion | saveWriteTimerExpiry | saveVerifyReadBack | saveMarkWriteCompletion | saveVerifyTimerExpiry
  | eraseInvalidationCompletion | eraseTimerExpiry => cases hc
  | status | lineEnable | lineDisable | lineInfo | nodeAdd | nodeSet | nodeRemove | nodeEnable | nodeDisable | nodeInfo
  | readSnapshot | demand | broadcast | cancel | scanStart | scanAbort =>
    cases h
    refine s.take_storeView _ fun rq u => ?_
    split <;> simp
  | unknownKind => cases h; exact s.take_storeView _ fun rq u => u.queueReply_storeView _ _
  | writeTransactionStart => exact execWriteTransactionStart_storeView h
  | readTransactionStart => exact execReadTransactionStart_storeView h
  | writeDataByte => cases h; split <;> simp
  | writeTransactionEnd | readTransactionEnd =>
    cases h
    refine State.awake_storeView ?_
    split <;> simp
  | readByteClocked =>
    cases h
    refine State.awake_storeView ?_
    split <;> rfl
  | partTimeTick => cases h; exact State.awake_storeView rfl
  | stallTimerExpiry => exact execStallTimerExpiry_storeView h
  | pollTimerExpiry | recoveryTimerExpiry =>
    cases h
    refine State.awake_storeView (State.onNode_storeView (fun i n => ?_) _)
    split <;> simp
  | dueTimeAdvance =>
    cases h
    exact State.awake_storeView (State.onNode_storeView (fun i n => State.updLine_storeView rfl) _)
  | snapshotAgeOut => exact execSnapshotAgeOut_storeView h
  | responseTimerExpiry | echoDeadlineExpiry | stuckSpaceExpiry | faultRecovery | fieldCharacterReceived =>
    cases h
    refine State.awake_storeView ?_
    split <;> simp
  | frameGapExpiry =>
    cases h
    refine State.awake_storeView ?_
    split
    · split <;> simp
    · rfl
  | stopBitSent =>
    cases h
    refine State.awake_storeView ?_
    dsimp only
    split <;> simp
  | guardEnd => exact execGuardEnd_storeView h
  | receivePinChange => cases h; split <;> simp

/-! ## LINE SET -/

/-- The settings of a line are replaced (R67). -/
theorem State.setSettings_storeView (s : State) (l : LineId) (settings : LineSettings) :
    (s.setLine l { s.line l with settings := settings }).storeView =
      { s.storeView with settings := Function.update s.storeView.settings l settings } := by
  have settings_eq : (fun k => ((s.setLine l { s.line l with settings := settings }).line k).settings) =
      Function.update (fun k => (s.line k).settings) l settings := funext fun k => by
    by_cases hk : k = l
    · subst hk
      simp
    · rw [State.line_setLine_other s _ hk, Function.update_of_ne hk]
  have slot : (s.setLine l { s.line l with settings := settings }).storeSlot = s.storeSlot :=
    funext fun id => by cases id <;> simp [State.storeSlot]
  simp only [State.storeView, settings_eq, slot, State.setLine_storeJob, State.setLine_storePhases, State.setLine_generation]

/-- LINE SET moves the settings of its line at most (R67). -/
theorem State.lineSet_storeView (s : State) (rq : Request) (l : LineId) (settings : LineSettings) :
    (s.lineSet rq l settings).storeView = s.storeView ∨
      (s.lineSet rq l settings).storeView =
        { s.storeView with settings := Function.update s.storeView.settings l settings } := by
  by_cases hs : (s.line l).state = .off
  · right
    rw [← s.setSettings_storeView l settings, State.lineSet, if_pos hs, State.answer_storeView]
    split
    · rfl
    · exact State.reportChange_storeView _
  · left
    rw [State.lineSet_of_on hs, State.answer_storeView]

/-- The store's view stays, or the settings of one line are replaced by others in range. -/
def StoreView.SetsLine (v w : StoreView) : Prop :=
  w = v ∨ ∃ l settings, settings.inRange = true ∧ w = { v with settings := Function.update v.settings l settings }

theorem execLineSet_storeView {s t : State} (h : execLineSet s = .next t) : s.storeView.SetsLine t.storeView := by
  cases h
  refine State.take_elim (p := fun t => s.storeView.SetsLine t.storeView) _ (.inl rfl) fun id rq => ?_
  rw [← s.accept_storeView id rq]
  split
  · exact .inl (State.answer_storeView _ rq _ _)
  · rename_i l settings hbody
    obtain e | e := State.lineSet_storeView (s.accept id rq) rq l settings
    · exact .inl e
    · exact .inr ⟨l, settings, ((lineSetBody_eq_some_iff _ _ _).mp hbody).1, e⟩

/-! ## STORE SAVE and STORE ERASE while a job is present -/

theorem execStoreSave_busy {s t : State} (hj : s.storeJob ≠ none) (h : execStoreSave s = .next t) : t.storeView = s.storeView := by
  cases h
  refine State.take_elim (p := fun t => t.storeView = s.storeView) _ rfl fun id rq => ?_
  rw [← s.accept_storeView id rq]
  split
  · exact State.answer_storeView _ rq _ _
  · have busy : (s.accept id rq).storeJob ≠ none := s.accept_storeJob id rq ▸ hj
    obtain ⟨status, e⟩ | ⟨-, idle, -⟩ := (s.accept id rq).storeSave_cases rq
    · rw [e, State.answer_storeView]
    · exact absurd idle busy

theorem execStoreErase_busy {s t : State} (hj : s.storeJob ≠ none) (h : execStoreErase s = .next t) :
    t.storeView = s.storeView := by
  cases h
  refine State.take_elim (p := fun t => t.storeView = s.storeView) _ rfl fun id rq => ?_
  rw [← s.accept_storeView id rq]
  split
  · exact State.answer_storeView _ rq _ _
  · have busy : (s.accept id rq).storeJob ≠ none := s.accept_storeJob id rq ▸ hj
    obtain ⟨status, e⟩ | ⟨idle, -⟩ := (s.accept id rq).storeErase_cases rq
    · rw [e, State.answer_storeView]
    · exact absurd idle busy

/-- While a job is present, no row but the store's own events and those of a reset moves more of the store's view than the settings of a
line (R138, R142). -/
theorem exec_storeView_of_job {c : Instr} {s t : State} (hj : s.storeJob ≠ none) (hs : s.resetting = none)
    (hc : phaseOfRow c = none) (hrequest : c ≠ .resetRequest) (hpower : c ≠ .powerUp) (hpin : c ≠ .rstPinLow)
    (h : exec c s = .next t) : s.storeView.SetsLine t.storeView := by
  cases hrow : storeRow c with
  | false => exact .inl (exec_storeView hrow h)
  | true =>
    cases c with
    | lineSet => exact execLineSet_storeView h
    | storeSave => exact .inl (execStoreSave_busy hj h)
    | storeErase => exact .inl (execStoreErase_busy hj h)
    | resetComplete adr1 adr0 =>
      rw [exec_resetComplete_of_awake hs] at h
      exact .inl (congrArg State.storeView (Host.Outcome.next.inj h).symm)
    | resetRequest => exact absurd rfl hrequest
    | powerUp => exact absurd rfl hpower
    | rstPinLow => exact absurd rfl hpin
    | _ => simp [storeRow, hc] at hrow

/-- What the view holds besides the settings. -/
theorem StoreView.SetsLine.fields {s t : State} (h : s.storeView.SetsLine t.storeView) :
    t.storeJob = s.storeJob ∧ t.storePhases = s.storePhases ∧ t.storeSlot = s.storeSlot ∧ t.generation = s.generation := by
  obtain e | ⟨l, settings, -, e⟩ := h
  all_goals exact ⟨congrArg StoreView.job e, congrArg StoreView.phases e, congrArg StoreView.slot e, congrArg StoreView.generation e⟩

end Sys2Proof.Machine
/-! SUPPORT. The rows of the store jobs by the phase that a SAVE job is in, and the rows that come late (R138, R139, R141, R142). -/

namespace Sys2Proof.Machine

/-! ## Late rows -/

theorem State.inPhase_of_other {s : State} {number : Nat} (h : s.storeJob = none ∨ number ≠ s.storePhases)
    (phases : List SavePhase) (f : Byte → Image → SlotId → Word → State) : s.inPhase number phases f = s := by
  obtain e | ⟨_, _, _, _, _, hj, hn, -, -⟩ := s.inPhase_cases number phases f
  · exact e
  · rcases h with h | h
    · rw [h] at hj; cases hj
    · exact absurd hn h

theorem State.inErase_of_other {s : State} {number : Nat} (h : s.storeJob = none ∨ number ≠ s.storePhases)
    (f : Byte → SlotId → List SlotId → Bool → State) : s.inErase number f = s := by
  obtain e | ⟨_, _, _, _, hj, hn, -⟩ := s.inErase_cases number f
  · exact e
  · rcases h with h | h
    · rw [h] at hj; cases hj
    · exact absurd hn h

theorem State.awake_of_same {s : State} {f : State → State} (h : f s = s) : s.awake f = s := by
  obtain e | ⟨-, e⟩ := s.awake_cases f <;> rw [e]
  exact h

/-- A row of another phase, or of an ended job, changes nothing (R138, R142). -/
theorem exec_of_otherPhase {c : Instr} {number : Nat} {s : State} (hc : phaseOfRow c = some number)
    (h : s.storeJob = none ∨ number ≠ s.storePhases) : exec c s = .next s := by
  cases c with
  | saveWriteCompletion | saveWriteTimerExpiry | saveVerifyReadBack | saveMarkWriteCompletion | saveVerifyTimerExpiry =>
    obtain rfl := Option.some.inj hc
    exact congrArg _ (State.awake_of_same (State.inPhase_of_other h _ _))
  | eraseInvalidationCompletion | eraseTimerExpiry =>
    obtain rfl := Option.some.inj hc
    exact congrArg _ (State.awake_of_same (State.inErase_of_other h _))
  | _ => cases hc

/-! ## A SAVE job -/

section
variable {s : State} {tag : Byte} {phase : SavePhase} {image : Image} {target : SlotId} {generation : Word}

/-- In its own phase an event reaches the job (R138). -/
theorem State.inPhase_own (hj : s.storeJob = some (.save tag phase image target generation)) {phases : List SavePhase}
    (hp : phase ∈ phases) (f : Byte → Image → SlotId → Word → State) :
    s.inPhase s.storePhases phases f = f tag image target generation := by
  rw [State.inPhase_of_save hj, if_pos ⟨rfl, hp⟩]

/-- In another phase it does not (R142). -/
theorem State.inPhase_foreign (hj : s.storeJob = some (.save tag phase image target generation)) {phases : List SavePhase}
    (hp : phase ∉ phases) (number : Nat) (f : Byte → Image → SlotId → Word → State) : s.inPhase number phases f = s := by
  rw [State.inPhase_of_save hj, if_neg fun h => hp h.2]

end

end Sys2Proof.Machine
/-! SUPPORT. The newest VALID image, the slot that a save writes, and the image it captures (R134, R135, R137). -/

namespace Sys2Proof.Machine

/-! ## The two slots -/

/-- The slot beside this one. -/
def SlotId.other : SlotId → SlotId
  | .s0 => .s1
  | .s1 => .s0

theorem SlotId.other_ne (id : SlotId) : id.other ≠ id := by cases id <;> nofun

@[simp] theorem SlotId.other_other (id : SlotId) : id.other.other = id := by cases id <;> rfl

theorem SlotId.eq_other {id k : SlotId} (h : k ≠ id) : k = id.other := by
  cases id <;> cases k
  case s0.s0 | s1.s1 => exact absurd rfl h
  case s0.s1 | s1.s0 => rfl

theorem State.storeSlot_setStoreSlot (s : State) (id : SlotId) (x : StoreSlot) :
    (s.setStoreSlot id x).storeSlot = Function.update s.storeSlot id x := funext fun k => by
  cases id <;> cases k <;> rfl

theorem StoreSlot.valid_iff (x : StoreSlot) :
    x.valid = true ↔ x.mark = true ∧ x.crcGood = true ∧ x.generation ≠ 0 ∧ x.image.inRange = true := by
  simp [StoreSlot.valid, and_assoc]

theorem StoreSlot.invalid_of_mark {x : StoreSlot} (h : x.mark = false) : ¬x.valid = true := by
  simp [StoreSlot.valid_iff, h]

/-! ## The newest image -/

theorem State.newestGeneration_congr {s t : State} (h : t.storeSlot = s.storeSlot) : t.newestGeneration = s.newestGeneration := by
  have h0 : t.storeSlot0 = s.storeSlot0 := congrFun h .s0
  have h1 : t.storeSlot1 = s.storeSlot1 := congrFun h .s1
  simp only [State.newestGeneration, State.newestSlot, State.validSlots, h, h0, h1]

/-- Of two VALID slots the second is the newer, or has the same generation (R134, R140). -/
theorem State.validSlots_of_both {s : State} (h : ∀ id, (s.storeSlot id).valid = true) : ∃ high : SlotId,
    s.validSlots = [high.other, high] ∧ (s.storeSlot high.other).generation.toNat ≤ (s.storeSlot high).generation.toNat := by
  have h0 : s.storeSlot0.valid = true := h .s0
  have h1 : s.storeSlot1.valid = true := h .s1
  by_cases hlt : s.storeSlot0.generation.toNat < s.storeSlot1.generation.toNat
  · exact ⟨.s1, by simp only [State.validSlots, h0, h1, if_pos hlt]; rfl, hlt.le⟩
  · exact ⟨.s0, by simp only [State.validSlots, h0, h1, if_neg hlt]; rfl, not_lt.mp hlt⟩

/-- A fact about a slot and the other is one about both. -/
theorem SlotId.forall_of_other {p : SlotId → Prop} {id : SlotId} (h : p id) (ho : p id.other) (k : SlotId) : p k := by
  by_cases hk : k = id
  · exact hk ▸ h
  · exact SlotId.eq_other hk ▸ ho

/-- A VALID slot whose generation no other VALID slot exceeds holds the newest generation (R134). -/
theorem State.newestGeneration_of_max {s : State} {slot : SlotId} (h : (s.storeSlot slot).valid = true)
    (hmax : (s.storeSlot slot.other).valid = true →
      (s.storeSlot slot.other).generation.toNat ≤ (s.storeSlot slot).generation.toNat) :
    s.newestGeneration = (s.storeSlot slot).generation := by
  rw [State.newestGeneration_eq]
  by_cases ho : (s.storeSlot slot.other).valid = true
  · obtain ⟨high, slots, hle⟩ := State.validSlots_of_both (SlotId.forall_of_other h ho)
    rw [slots]
    show (s.storeSlot high).generation = _
    by_cases hhigh : high = slot
    · rw [hhigh]
    · obtain rfl := SlotId.eq_other hhigh
      rw [SlotId.other_other] at hle
      exact BitVec.eq_of_toNat_eq (le_antisymm (hmax ho) hle)
  · rw [State.validSlots_of_one slot.other_ne.symm h ho]
    rfl

/-- With one slot INVALID the newest image is that of the other, or there is none. -/
theorem State.newestGeneration_of_invalid {s : State} {slot : SlotId} (h : ¬(s.storeSlot slot).valid = true) :
    s.newestGeneration = if (s.storeSlot slot.other).valid = true then (s.storeSlot slot.other).generation else 0 := by
  split
  · rename_i ho
    exact State.newestGeneration_of_max ho fun h' => absurd (slot.other_other ▸ h') h
  · rename_i ho
    rw [State.newestGeneration_eq, State.validSlots_of_none (SlotId.forall_of_other h ho)]
    rfl

/-- A slot that becomes INVALID held the newest generation, or the newest generation stays. -/
theorem State.newestGeneration_of_cleared {s t : State} {slot : SlotId} {x : StoreSlot} (hx : ¬x.valid = true)
    (ht : t.storeSlot = Function.update s.storeSlot slot x) :
    t.newestGeneration = s.newestGeneration ∨
      (s.storeSlot slot).valid = true ∧ s.newestGeneration = (s.storeSlot slot).generation := by
  have after : t.newestGeneration =
      if (s.storeSlot slot.other).valid = true then (s.storeSlot slot.other).generation else 0 := by
    rw [State.newestGeneration_of_invalid (s := t) (slot := slot) (by rw [ht, Function.update_self]; exact hx), ht,
      Function.update_of_ne slot.other_ne]
  by_cases h : (s.storeSlot slot).valid = true
  · by_cases hmax : (s.storeSlot slot.other).valid = true →
      (s.storeSlot slot.other).generation.toNat ≤ (s.storeSlot slot).generation.toNat
    · exact .inr ⟨h, State.newestGeneration_of_max h hmax⟩
    · obtain ⟨ho, hlt⟩ := Classical.not_imp.mp hmax
      rw [after, if_pos ho, State.newestGeneration_of_max ho fun _ => ?_]
      · exact .inl rfl
      · rw [SlotId.other_other]
        exact (not_le.mp hlt).le
  · exact .inl (after.trans (State.newestGeneration_of_invalid h).symm)

theorem State.saveTarget_of_one {s : State} {id : SlotId} (h : s.validSlots = [id]) : s.saveTarget = id.other := by
  cases id <;> simp only [State.saveTarget, h, SlotId.other]

/-- The newest image, if there is one, is in the slot beside the one that a save writes (R137). -/
theorem State.newestGeneration_beside_target (s : State) : s.newestGeneration =
    if (s.storeSlot s.saveTarget.other).valid = true then (s.storeSlot s.saveTarget.other).generation else 0 := by
  by_cases h : (s.storeSlot s.saveTarget).valid = true
  · have ho : (s.storeSlot s.saveTarget.other).valid = true := by
      by_contra ho
      exact s.saveTarget.other_ne (State.saveTarget_of_one (State.validSlots_of_one s.saveTarget.other_ne.symm h ho)).symm
    obtain ⟨high, slots, -⟩ := State.validSlots_of_both (SlotId.forall_of_other h ho)
    have target : s.saveTarget = high.other := by cases high <;> simp only [State.saveTarget, slots, SlotId.other]
    rw [if_pos ho, State.newestGeneration_eq, slots, target]
    cases high <;> rfl
  · exact State.newestGeneration_of_invalid h

/-! ## The captured image -/

theorem State.mem_capture {s : State} {r : NodeRecord} (h : r ∈ s.capture.nodes) :
    ∃ n, s.node r.index = some n ∧ r.config = n.config := by
  obtain ⟨i, -, hr⟩ := List.mem_filterMap.mp h
  obtain ⟨n, hn, rfl⟩ := Option.map_eq_some_iff.mp hr
  exact ⟨n, ((s.liveNode_iff i n).mp hn).1, rfl⟩

/-- The record of an index, if it has one. -/
theorem State.capture_inj {s : State} {r q : NodeRecord} (hr : r ∈ s.capture.nodes) (hq : q ∈ s.capture.nodes)
    (h : r.index = q.index) : r = q := by
  obtain ⟨i, -, hr⟩ := List.mem_filterMap.mp hr
  obtain ⟨j, -, hq⟩ := List.mem_filterMap.mp hq
  obtain ⟨m, hm, rfl⟩ := Option.map_eq_some_iff.mp hr
  obtain ⟨n, hn, rfl⟩ := Option.map_eq_some_iff.mp hq
  obtain rfl : i = j := h
  rw [hm] at hn
  cases hn
  rfl

theorem State.capture_nodup (s : State) : s.capture.nodes.Nodup := by
  refine (List.nodup_finRange 32).filterMap fun i j r hi hj => ?_
  obtain ⟨m, -, rfl⟩ := Option.map_eq_some_iff.mp hi
  obtain ⟨n, -, e⟩ := Option.map_eq_some_iff.mp hj
  exact (congrArg NodeRecord.index e).symm

/-- What a save captures is an image in range (R1, R48, R134, R135). -/
theorem State.capture_inRange {s : State} (settings : ∀ l, (s.line l).settings.inRange = true)
    (configs : ∀ i n, s.node i = some n → n.config.inRange = true) (distinct : s.AddressesDistinct) :
    s.capture.inRange = true := by
  have a : s.capture.settingsA.inRange = true := settings .a
  have b : s.capture.settingsB.inRange = true := settings .b
  have records : s.capture.nodes.all (fun r => r.config.inRange) = true := List.all_eq_true.mpr fun r hr => by
    obtain ⟨n, hn, e⟩ := State.mem_capture hr
    rw [e]
    exact configs _ n hn
  have indices : (s.capture.nodes.map NodeRecord.index).Nodup :=
    s.capture_nodup.map_on fun r hr q hq h => State.capture_inj hr hq h
  have addresses : (s.capture.nodes.map fun r => (r.config.line, r.config.address)).Nodup :=
    s.capture_nodup.map_on fun r hr q hq h => by
      obtain ⟨m, hm, em⟩ := State.mem_capture hr
      obtain ⟨n, hn, en⟩ := State.mem_capture hq
      rw [em, en] at h
      exact State.capture_inj hr hq (distinct _ _ m n hm hn (Prod.ext_iff.mp h).1 (Prod.ext_iff.mp h).2)
  simp only [Image.inRange, a, b, records, indices, addresses, decide_true, Bool.and_self]

end Sys2Proof.Machine
/-! SUPPORT. What keeps the store in order: the phases of SAVE and ERASE jobs, each by the slots, the job and the current generation that
it leaves (R134, R136, R137, R140). -/

namespace Sys2Proof.Machine

/-! ## What the order of the store reads -/

theorem State.JobAgrees.congr {s t : State} (hslot : t.storeSlot = s.storeSlot) (hg : t.generation = s.generation) {j : StoreJob}
    (h : s.JobAgrees j) : t.JobAgrees j := by
  cases j <;> simpa only [State.JobAgrees, hslot, hg] using h

/-- The configurations of all entries are in range (R1). -/
def State.ConfigsInRange (s : State) : Prop := ∀ i n, s.node i = some n → n.config.inRange = true

theorem State.ConfigsInRange.kept {s t : State} (h : s.ConfigsInRange) (g : s.ConfigsKept t) : t.ConfigsInRange := fun i m hm => by
  obtain ⟨n, hn, e⟩ := g i m hm
  exact e ▸ h i n hn

/-- The slots and the current generation stay, and the job stays or ends. -/
theorem State.StoreInOrder.of_slots {s t : State} (h : s.StoreInOrder) (hj : t.storeJob = s.storeJob ∨ t.storeJob = none)
    (hslot : t.storeSlot = s.storeSlot) (hg : t.generation = s.generation) (settings : ∀ l, (t.line l).settings.inRange = true)
    (configs : t.ConfigsInRange) : t.StoreInOrder where
  settings := settings
  configs := configs
  job j ht := by
    rcases hj with hj | hj
    · exact (h.job j (hj ▸ ht)).congr hslot hg
    · rw [hj] at ht; cases ht
  current := by rw [hg, State.newestGeneration_congr hslot]; exact h.current

theorem State.StoreInOrder.of_view {s t : State} (h : s.StoreInOrder) (hv : t.storeView = s.storeView)
    (configs : t.ConfigsInRange) : t.StoreInOrder :=
  h.of_slots (.inl (congrArg StoreView.job hv)) (congrArg StoreView.slot hv) (congrArg StoreView.generation hv)
    (fun l => by rw [show (t.line l).settings = (s.line l).settings from congrFun (congrArg StoreView.settings hv) l]; exact h.settings l)
    configs

theorem State.StoreInOrder.of_setsLine {s t : State} (h : s.StoreInOrder) (hv : s.storeView.SetsLine t.storeView)
    (configs : t.ConfigsInRange) : t.StoreInOrder := by
  obtain ⟨job, -, slot, generation⟩ := hv.fields
  refine h.of_slots (.inl job) slot generation (fun k => ?_) configs
  obtain e | ⟨l, settings, inRange, e⟩ := hv
  · rw [show (t.line k).settings = (s.line k).settings from congrFun (congrArg StoreView.settings e) k]
    exact h.settings k
  · have moved : (t.line k).settings = Function.update (fun k => (s.line k).settings) l settings k :=
      congrFun (congrArg StoreView.settings e) k
    rw [moved]
    by_cases hk : k = l
    · rw [hk, Function.update_self]; exact inRange
    · rw [Function.update_of_ne hk]; exact h.settings k

/-! ## NODE ADD and NODE SET -/

theorem State.ConfigsInRange.setNode {s : State} (h : s.ConfigsInRange) (i : Index) {m : Node} (hm : m.config.inRange = true) :
    (s.setNode i (some m)).ConfigsInRange := fun j n hn => by
  rw [State.node_setNode] at hn
  split at hn
  · exact Option.some.inj hn ▸ hm
  · exact h j n hn

theorem State.ConfigsInRange.nodeAdd {s : State} (h : s.ConfigsInRange) (rq : Request) {c : NodeConfig} (hc : c.inRange = true)
    (startDisabled : Bool) : (s.nodeAdd rq c startDisabled).ConfigsInRange := by
  have answered (status : Status) : (s.answer rq status []).ConfigsInRange :=
    h.kept (s.answer_queueOnly rq status []).configsKept
  cases held : s.addressHeld c.line c.address with
  | true => rw [State.nodeAdd_of_held held]; exact answered _
  | false =>
    cases hi : s.freeIndex with
    | none => rw [State.nodeAdd_of_full held hi]; exact answered _
    | some i =>
      have added : (s.added rq c startDisabled i).ConfigsInRange := fun j n hn => by
        rw [State.added_node, ← State.node_setNode] at hn
        exact h.setNode i (m := c.added startDisabled) hc j n hn
      rw [State.nodeAdd_of_free held hi]
      split
      · exact added.kept (State.makeDueNow_configsKept _ _ i)
      · exact added

theorem State.ConfigsInRange.nodeSet {s : State} (h : s.ConfigsInRange) (rq : Request) (i : Index) {c : NodeConfig}
    (hc : c.inRange = true) : (s.nodeSet rq i c).ConfigsInRange := by
  obtain ⟨status, data, e⟩ | ⟨n, -, -, -, -, e⟩ := s.nodeSet_cases rq i c <;> rw [e]
  · exact h.kept (s.answer_queueOnly rq status data).configsKept
  · exact (h.setNode i (m := { n with config := c }) hc).kept
      ((s.configured_narrows i n c).configsKept.trans (State.answer_queueOnly _ rq _ _).configsKept)

/-- A row that ends no reset keeps the configurations in range. -/
theorem exec_configsInRange {c : Instr} {s t : State} (hs : s.ConfigsInRange) (hreset : ∀ a b, c ≠ .resetComplete a b)
    (h : exec c s = .next t) : t.ConfigsInRange := by
  by_cases hadd : c = .nodeAdd
  · subst hadd
    cases h
    refine State.take_keeps hs _ (fun id rq => hs.kept (s.accept_narrows id rq none).configsKept) fun rq u hu => ?_
    split
    · exact hu.kept (u.answer_queueOnly rq _ _).configsKept
    · exact hu.nodeAdd rq (nodeBody_inRange ‹_›) _
  · by_cases hset : c = .nodeSet
    · subst hset
      cases h
      refine State.take_keeps hs _ (fun id rq => hs.kept (s.accept_narrows id rq none).configsKept) fun rq u hu => ?_
      split
      · exact hu.kept (u.answer_queueOnly rq _ _).configsKept
      · exact hu.nodeSet rq _ (nodeSetBody_inRange ‹_›)
    · exact hs.kept (exec_keepsNodes hadd hset hreset h).configs

/-! ## Rows of the store -/

/-- Settings and node entries are those of `s`. -/
structure State.SameConfiguration (s t : State) : Prop where
  settings : ∀ l, (t.line l).settings = (s.line l).settings
  nodes : t.nodes = s.nodes

theorem State.SameConfiguration.settingsInRange {s t : State} (same : s.SameConfiguration t) (h : s.StoreInOrder) (l : LineId) :
    (t.line l).settings.inRange = true := same.settings l ▸ h.settings l

theorem State.SameConfiguration.configsInRange {s t : State} (same : s.SameConfiguration t) (h : s.StoreInOrder) :
    t.ConfigsInRange := fun i n hn => h.configs i n (State.node_congr same.nodes i ▸ hn)

theorem State.setStoreSlot_sameConfiguration (s : State) (id : SlotId) (x : StoreSlot) :
    s.SameConfiguration (s.setStoreSlot id x) := ⟨fun l => by simp, by simp⟩

/-- A job that has ended leaves nothing but the current generation to agree with the slots. -/
theorem State.StoreInOrder.of_noJob {s t : State} (h : s.StoreInOrder) (same : s.SameConfiguration t) (hjob : t.storeJob = none)
    (current : t.generation = 0 ∨ t.generation = t.newestGeneration) : t.StoreInOrder :=
  ⟨same.settingsInRange h, same.configsInRange h, (fun j hj => by rw [hjob] at hj; cases hj), current⟩

/-! ## SAVE -/

theorem Word.toNat_succ {w : Word} (h : w ≠ 0xFFFFFFFF) : (w + 1).toNat = w.toNat + 1 := by
  have hne : w.toNat ≠ 0xFFFFFFFF := fun e => h (BitVec.eq_of_toNat_eq e)
  have hlt := w.isLt
  rw [BitVec.toNat_add, show (1 : Word).toNat = 1 from rfl]
  omega

section
variable {s t : State} {tag : Byte} {image : Image} {target : SlotId} {generation : Word}

/-- The write of a save starts: its slot is INVALID, and the newest image is beside it (R137, R138). -/
theorem State.StoreInOrder.saveStarts (h : s.StoreInOrder) (distinct : s.AddressesDistinct)
    (hlast : s.newestGeneration ≠ 0xFFFFFFFF)
    (hslot : t.storeSlot = Function.update s.storeSlot s.saveTarget { s.storeSlot s.saveTarget with mark := false })
    (hg : t.generation = s.generation)
    (hjob : t.storeJob = some (.save tag .write s.capture s.saveTarget (s.newestGeneration + 1)))
    (same : s.SameConfiguration t) : t.StoreInOrder where
  settings := same.settingsInRange h
  configs := same.configsInRange h
  job j hj := by
    rw [hjob] at hj
    obtain rfl := Option.some.inj hj
    have succ := Word.toNat_succ hlast
    refine ⟨?mark, State.capture_inRange h.settings h.configs distinct, ?positive, fun other hne hv => ?above, fun hp => absurd rfl hp⟩
    case mark => rw [hslot, Function.update_self]
    case positive =>
      intro e
      rw [e] at succ
      exact absurd succ (Nat.succ_ne_zero _).symm
    case above =>
      obtain rfl := SlotId.eq_other hne
      rw [hslot, Function.update_of_ne hne] at hv ⊢
      have newest := s.newestGeneration_beside_target
      rw [if_pos hv] at newest
      rw [succ, newest]
      exact Nat.lt_succ_self _
  current := by
    have after : t.newestGeneration = s.newestGeneration := by
      rw [State.newestGeneration_of_invalid (s := t) (slot := s.saveTarget)
        (by rw [hslot, Function.update_self]; exact StoreSlot.invalid_of_mark rfl), hslot, Function.update_of_ne s.saveTarget.other_ne,
        ← s.newestGeneration_beside_target]
    rw [hg, after]
    exact h.current

/-- The write of a save is complete: its slot holds what was written, and is still INVALID (R138). -/
theorem State.StoreInOrder.saveWritten (h : s.StoreInOrder) {phase : SavePhase}
    (hj : s.storeJob = some (.save tag phase image target generation))
    (hslot : t.storeSlot = Function.update s.storeSlot target
      { mark := false, crcGood := true, generation := generation, image := image })
    (hg : t.generation = s.generation) (hjob : t.storeJob = some (.save tag .readBack image target generation))
    (same : s.SameConfiguration t) : t.StoreInOrder := by
  obtain ⟨mark, inRange, positive, above, -⟩ := h.job _ hj
  refine ⟨same.settingsInRange h, same.configsInRange h, fun j hj => ?job, ?current⟩
  case job =>
    rw [hjob] at hj
    obtain rfl := Option.some.inj hj
    refine ⟨by rw [hslot, Function.update_self], inRange, positive, fun other hne => ?_, fun _ => by rw [hslot, Function.update_self]⟩
    rw [hslot, Function.update_of_ne hne]
    exact above other hne
  case current =>
    have after : t.newestGeneration = s.newestGeneration :=
      (State.newestGeneration_of_cleared (StoreSlot.invalid_of_mark rfl) hslot).resolve_right
        fun hv => StoreSlot.invalid_of_mark mark hv.1
    rw [hg, after]
    exact h.current

/-- The mark of a save is written: its slot is VALID, and the newest (R138, R139). -/
theorem State.StoreInOrder.saveEnds (h : s.StoreInOrder) (hj : s.storeJob = some (.save tag .markWrite image target generation))
    (hslot : t.storeSlot = Function.update s.storeSlot target { s.storeSlot target with mark := true })
    (hg : t.generation = generation) (hjob : t.storeJob = none)
    (same : s.SameConfiguration t) : t.StoreInOrder := by
  obtain ⟨-, inRange, positive, above, written⟩ := h.job _ hj
  refine h.of_noJob same hjob (.inr ?_)
  have slot : t.storeSlot target = { mark := true, crcGood := true, generation := generation, image := image } := by
    rw [hslot, Function.update_self, written nofun]
  rw [State.newestGeneration_of_max (s := t) (slot := target), slot, hg]
  · rw [slot]
    exact (StoreSlot.valid_iff _).mpr ⟨rfl, rfl, positive, inRange⟩
  · rw [slot, hslot, Function.update_of_ne target.other_ne]
    exact fun hv => (above _ target.other_ne hv).le

end

/-- An accepted STORE SAVE keeps the store in order (R137). -/
theorem State.StoreInOrder.startSave {s : State} (h : s.StoreInOrder) (distinct : s.AddressesDistinct) {tag : Byte}
    (ht : tag ∉ s.tags) (hj : s.storeJob = none) : (s.startSave tag).StoreInOrder := by
  by_cases hlast : s.newestGeneration = 0xFFFFFFFF
  · rw [State.startSave_fails hlast ht hj]
    exact h.of_slots (.inl rfl) rfl rfl h.settings h.configs
  · have same := s.setStoreSlot_sameConfiguration s.saveTarget { s.storeSlot s.saveTarget with mark := false }
    rw [State.startSave_writes hlast]
    exact h.saveStarts distinct hlast (s.storeSlot_setStoreSlot _ _) (s.setStoreSlot_generation _ _) rfl ⟨same.settings, same.nodes⟩

/-- A SAVE job that fails leaves the slots as they are (R138). -/
theorem State.StoreInOrder.saveFails {s : State} (h : s.StoreInOrder) (tag : Byte) (generation : Word) :
    (s.endSave tag generation false).StoreInOrder := by
  rw [State.endSave_failed]
  exact h.of_slots (.inr rfl) rfl rfl h.settings h.configs

/-! ## ERASE -/

/-- A slot whose invalidation may start: it is VALID, and so are the others to do; no VALID slot has a lower generation (R140). -/
structure State.MayInvalidate (s : State) (slot : SlotId) (rest : List SlotId) : Prop where
  valid : (s.storeSlot slot).valid = true
  last : rest.length ≤ 1
  others : ∀ other ∈ rest, other ≠ slot ∧ (s.storeSlot other).valid = true
  lowest : ∀ other, other ≠ slot → (s.storeSlot other).valid = true →
    (s.storeSlot slot).generation.toNat ≤ (s.storeSlot other).generation.toNat

/-- The VALID slots of an ERASE, the lower generation first. -/
theorem State.mayInvalidate_of_validSlots {s : State} {slot : SlotId} {rest : List SlotId} (h : s.validSlots = slot :: rest) :
    s.MayInvalidate slot rest := by
  have single {low : SlotId} (hl : (s.storeSlot low).valid = true) (hh : ¬(s.storeSlot low.other).valid = true) :
      s.MayInvalidate slot rest := by
    rw [State.validSlots_of_one low.other_ne.symm hl hh] at h
    cases h
    exact ⟨hl, Nat.zero_le _, nofun, fun other hne hv => absurd (SlotId.eq_other hne ▸ hv) hh⟩
  by_cases h0 : (s.storeSlot .s0).valid = true
  · by_cases h1 : (s.storeSlot .s1).valid = true
    · have valid := SlotId.forall_of_other (p := fun id => (s.storeSlot id).valid = true) (id := .s0) h0 h1
      obtain ⟨high, slots, hle⟩ := State.validSlots_of_both valid
      rw [slots] at h
      cases h
      refine ⟨valid _, le_rfl, fun other ho => ?_, fun other hne _ => ?_⟩
      · rw [List.mem_singleton.mp ho]
        exact ⟨high.other_ne.symm, valid _⟩
      · rw [SlotId.eq_other hne, SlotId.other_other]
        exact hle
    · exact single (low := .s0) h0 h1
  · by_cases h1 : (s.storeSlot .s1).valid = true
    · exact single (low := .s1) h1 h0
    · rw [State.validSlots_of_none (SlotId.forall_of_other (id := .s0) h0 h1)] at h
      cases h

section
variable {s t : State} {tag : Byte} {slot : SlotId} {rest : List SlotId} {held : Bool}

/-- The invalidation of a slot starts (R140). -/
theorem State.StoreInOrder.eraseStarts (h : s.StoreInOrder) (may : s.MayInvalidate slot rest)
    (hslot : t.storeSlot = Function.update s.storeSlot slot { s.storeSlot slot with mark := false })
    (hg : t.generation = if (s.storeSlot slot).generation = s.generation then 0 else s.generation)
    (hjob : t.storeJob = some (.erase tag slot rest (decide ((s.storeSlot slot).generation = s.generation))))
    (same : s.SameConfiguration t) : t.StoreInOrder := by
  obtain ⟨mark, crcGood, positive, inRange⟩ := (StoreSlot.valid_iff _).mp may.valid
  have cleared : t.storeSlot slot = { s.storeSlot slot with mark := false } := by rw [hslot, Function.update_self]
  have kept {other : SlotId} (hne : other ≠ slot) : t.storeSlot other = s.storeSlot other := by
    rw [hslot, Function.update_of_ne hne]
  refine ⟨same.settingsInRange h, same.configsInRange h, fun j hj => ?job, ?current⟩
  case job =>
    rw [hjob] at hj
    obtain rfl := Option.some.inj hj
    refine ⟨by rw [cleared], ?restored, may.last, fun other ho => ?others, fun other hne => ?lowest, fun hheld => ?held⟩
    case restored =>
      rw [cleared]
      exact (StoreSlot.valid_iff _).mpr ⟨rfl, crcGood, positive, inRange⟩
    case others =>
      obtain ⟨hne, hv⟩ := may.others other ho
      exact ⟨hne, by rw [kept hne]; exact hv⟩
    case lowest =>
      rw [cleared, kept hne]
      exact may.lowest other hne
    case held =>
      have equal := of_decide_eq_true hheld
      refine ⟨by rw [hg, if_pos equal], fun other hne hv => ?_⟩
      rw [kept hne] at hv
      rw [cleared, kept hne]
      obtain rfl := SlotId.eq_other hne
      have newest : s.generation = s.newestGeneration := h.current.resolve_left fun e => positive (equal.trans e)
      have above : s.newestGeneration = (s.storeSlot slot.other).generation :=
        State.newestGeneration_of_max hv fun _ => by rw [SlotId.other_other]; exact may.lowest _ hne hv
      exact equal.trans (newest.trans above)
  case current =>
    rw [hg]
    split
    · exact .inl rfl
    · rename_i hne
      refine h.current.imp id fun hs => hs.trans ?_
      obtain e | ⟨-, e⟩ := State.newestGeneration_of_cleared (StoreSlot.invalid_of_mark rfl) hslot
      · exact e.symm
      · exact absurd (hs.trans e).symm hne

/-- A slot that could not be invalidated is VALID as it was, and has its generation back (R140). -/
theorem State.StoreInOrder.eraseFails (h : s.StoreInOrder) (hj : s.storeJob = some (.erase tag slot rest held))
    (hslot : t.storeSlot = Function.update s.storeSlot slot { s.storeSlot slot with mark := true })
    (hg : t.generation = if held then (s.storeSlot slot).generation else s.generation) (hjob : t.storeJob = none)
    (same : s.SameConfiguration t) : t.StoreInOrder := by
  obtain ⟨mark, restored, -, -, lowest, current⟩ := h.job _ hj
  have back : t.storeSlot slot = { s.storeSlot slot with mark := true } := by rw [hslot, Function.update_self]
  have beside : t.storeSlot slot.other = s.storeSlot slot.other := by rw [hslot, Function.update_of_ne slot.other_ne]
  refine h.of_noJob same hjob ?_
  rw [hg]
  by_cases ho : (s.storeSlot slot.other).valid = true
  · have newest : t.newestGeneration = (s.storeSlot slot.other).generation := by
      rw [← beside]
      refine State.newestGeneration_of_max (by rw [beside]; exact ho) fun _ => ?_
      rw [SlotId.other_other, back, beside]
      exact lowest _ slot.other_ne ho
    rw [newest]
    cases held with
    | true => exact .inr ((current rfl).2 _ slot.other_ne ho)
    | false =>
      have before := State.newestGeneration_of_invalid (StoreSlot.invalid_of_mark mark)
      rw [if_pos ho] at before
      exact before ▸ h.current
  · have newest : t.newestGeneration = (s.storeSlot slot).generation := by
      rw [State.newestGeneration_of_max (s := t) (slot := slot) (by rw [back]; exact restored)
        fun hv => absurd (beside ▸ hv) ho, back]
    cases held with
    | true => exact .inr newest.symm
    | false =>
      have before := State.newestGeneration_of_invalid (StoreSlot.invalid_of_mark mark)
      rw [if_neg ho] at before
      exact .inl (h.current.elim id fun e => e.trans before)

/-- After a slot the next one of the job may be invalidated (R140). -/
theorem State.JobAgrees.mayInvalidate {next : SlotId} {others : List SlotId} (h : s.JobAgrees (.erase tag slot (next :: others) held)) :
    s.MayInvalidate next others := by
  obtain ⟨mark, -, last, valid, -, -⟩ := h
  obtain ⟨hne, hv⟩ := valid next List.mem_cons_self
  obtain rfl : others = [] := List.length_eq_zero_iff.mp (Nat.le_zero.mp (Nat.le_of_succ_le_succ last))
  refine ⟨hv, Nat.zero_le _, nofun, fun other ho hvalid => ?_⟩
  obtain rfl := SlotId.eq_other hne
  rw [SlotId.eq_other ho, SlotId.other_other] at hvalid
  exact absurd hvalid (StoreSlot.invalid_of_mark mark)

end

/-- An invalidation starts (R140). -/
theorem State.StoreInOrder.invalidate {s : State} (h : s.StoreInOrder) {slot : SlotId} {rest : List SlotId}
    (may : s.MayInvalidate slot rest) (tag : Byte) : (s.invalidate tag slot rest).StoreInOrder := by
  have same := s.setStoreSlot_sameConfiguration slot { s.storeSlot slot with mark := false }
  rw [State.invalidate_eq]
  exact h.eraseStarts may (s.storeSlot_setStoreSlot _ _) rfl rfl ⟨same.settings, same.nodes⟩

/-- An ERASE job that ends leaves the slots as they are (R140). -/
theorem State.StoreInOrder.endErase {s : State} (h : s.StoreInOrder) (tag : Byte) (status : Status) :
    (s.endErase tag status).StoreInOrder := by
  rw [State.endErase_eq]
  exact h.of_slots (.inr rfl) rfl rfl h.settings h.configs

/-- An accepted STORE ERASE keeps the store in order (R140). -/
theorem State.StoreInOrder.startErase {s : State} (h : s.StoreInOrder) (tag : Byte) :
    ((s.addTag tag).eraseNext tag s.validSlots).StoreInOrder := by
  have tagged : (s.addTag tag).StoreInOrder := h.of_view (s.addTag_storeView tag) h.configs
  cases slots : (s.addTag tag).validSlots with
  | nil => exact slots ▸ tagged.endErase tag .ok
  | cons slot rest => exact slots ▸ tagged.invalidate (State.mayInvalidate_of_validSlots slots) tag

end Sys2Proof.Machine
/-! SUPPORT. Every command keeps the store in order (R134, R136, R137, R140, R143). -/

namespace Sys2Proof.Machine

/-! ## The rows of the store -/

theorem State.StoreInOrder.accept {s : State} (h : s.StoreInOrder) (id : SlotId) (rq : Request) : (s.accept id rq).StoreInOrder :=
  h.of_view (s.accept_storeView id rq) fun i n hn => h.configs i n (by simpa using hn)

theorem State.StoreInOrder.answer {s : State} (h : s.StoreInOrder) (rq : Request) (status : Status) (data : List Byte) :
    (s.answer rq status data).StoreInOrder :=
  h.of_view (s.answer_storeView rq status data) (State.ConfigsInRange.kept h.configs (s.answer_queueOnly rq status data).configsKept)

theorem execStoreSave_storeInOrder {s t : State} (distinct : s.AddressesDistinct) (hs : s.StoreInOrder)
    (h : execStoreSave s = .next t) : t.StoreInOrder := by
  cases h
  refine State.take_elim _ hs fun id rq => ?_
  have accepted := hs.accept id rq
  split
  · exact accepted.answer rq _ _
  · obtain ⟨status, e⟩ | ⟨ht, hj, e⟩ := (s.accept id rq).storeSave_cases rq <;> rw [e]
    · exact accepted.answer rq _ _
    · exact accepted.startSave (distinct.kept (s.accept_narrows id rq none).configsKept) ht hj

theorem execStoreErase_storeInOrder {s t : State} (hs : s.StoreInOrder) (h : execStoreErase s = .next t) : t.StoreInOrder := by
  cases h
  refine State.take_elim _ hs fun id rq => ?_
  have accepted := hs.accept id rq
  split
  · exact accepted.answer rq _ _
  · obtain ⟨status, e⟩ | ⟨-, e⟩ := (s.accept id rq).storeErase_cases rq <;> rw [e]
    · exact accepted.answer rq _ _
    · exact accepted.startErase rq.tag

/-- An event of a SAVE's phases keeps the store in order if its function does for the job it reaches. -/
theorem State.StoreInOrder.awake_inPhase {s : State} (hs : s.StoreInOrder) (number : Nat) (phases : List SavePhase)
    {f : State → Byte → Image → SlotId → Word → State}
    (h : ∀ tag phase image target generation, phase ∈ phases → s.storeJob = some (.save tag phase image target generation) →
      (f s tag image target generation).StoreInOrder) :
    (s.awake fun s => s.inPhase number phases (f s)).StoreInOrder := by
  obtain e | ⟨-, e⟩ := s.awake_cases fun s => s.inPhase number phases (f s) <;> rw [e]
  · exact hs
  · obtain e | ⟨tag, phase, image, target, generation, hj, -, hp, e⟩ := s.inPhase_cases number phases (f s) <;> rw [e]
    · exact hs
    · exact h tag phase image target generation hp hj

theorem State.StoreInOrder.awake_inErase {s : State} (hs : s.StoreInOrder) (number : Nat)
    {f : State → Byte → SlotId → List SlotId → Bool → State}
    (h : ∀ tag slot rest held, s.storeJob = some (.erase tag slot rest held) → (f s tag slot rest held).StoreInOrder) :
    (s.awake fun s => s.inErase number (f s)).StoreInOrder := by
  obtain e | ⟨-, e⟩ := s.awake_cases fun s => s.inErase number (f s) <;> rw [e]
  · exact hs
  · obtain e | ⟨tag, slot, rest, held, hj, -, e⟩ := s.inErase_cases number (f s) <;> rw [e]
    · exact hs
    · exact h tag slot rest held hj

/-- The events of the store's own keep it in order (R138, R140). -/
theorem exec_storeInOrder_of_phase {c : Instr} {number : Nat} {s t : State} (hs : s.StoreInOrder) (hc : phaseOfRow c = some number)
    (h : exec c s = .next t) : t.StoreInOrder := by
  cases c with
  | saveWriteCompletion =>
    cases h
    refine hs.awake_inPhase _ _ fun tag phase image target generation _ hj => ?_
    have same := s.setStoreSlot_sameConfiguration target
      { mark := false, crcGood := true, generation := generation, image := image }
    exact hs.saveWritten hj (s.storeSlot_setStoreSlot _ _) (s.setStoreSlot_generation _ _) rfl ⟨same.settings, same.nodes⟩
  | saveVerifyReadBack equal =>
    cases h
    refine hs.awake_inPhase _ _ fun tag phase image target generation hp hj => ?_
    obtain rfl := List.mem_singleton.mp hp
    cases equal with
    | true =>
      obtain ⟨mark, inRange, positive, above, written⟩ := hs.job _ hj
      refine ⟨hs.settings, hs.configs, fun j hj => ?_, hs.current⟩
      obtain rfl := Option.some.inj hj
      exact ⟨mark, inRange, positive, above, fun _ => written nofun⟩
    | false => exact hs.saveFails tag generation
  | saveMarkWriteCompletion =>
    cases h
    refine hs.awake_inPhase _ _ fun tag phase image target generation hp hj => ?_
    obtain rfl := List.mem_singleton.mp hp
    have same := s.setStoreSlot_sameConfiguration target { s.storeSlot target with mark := true }
    rw [State.endSave_ok]
    exact hs.saveEnds hj (s.storeSlot_setStoreSlot _ _) rfl rfl ⟨same.settings, same.nodes⟩
  | saveWriteTimerExpiry | saveVerifyTimerExpiry =>
    cases h
    exact hs.awake_inPhase _ _ fun tag _ _ _ generation _ _ => hs.saveFails tag generation
  | eraseInvalidationCompletion cleared =>
    cases h
    refine hs.awake_inErase _ fun tag slot rest held hj => ?_
    cases cleared with
    | true =>
      cases rest with
      | nil => exact hs.endErase tag .ok
      | cons next others => exact hs.invalidate (hs.job _ hj).mayInvalidate tag
    | false =>
      have same := s.setStoreSlot_sameConfiguration slot { s.storeSlot slot with mark := true }
      rw [if_neg Bool.false_ne_true, State.endErase_eq]
      exact hs.eraseFails hj (s.storeSlot_setStoreSlot _ _) rfl rfl ⟨same.settings, same.nodes⟩
  | eraseTimerExpiry =>
    cases h
    exact hs.awake_inErase _ fun tag _ _ _ _ => hs.endErase tag .storeFailed
  | _ => cases hc

/-! ## Resets -/

/-- A reset ends the job and leaves the slots as they are (R144, R161). -/
theorem State.StoreInOrder.beginReset {s : State} (h : s.StoreInOrder) (cause : ResetCause) : (s.beginReset cause).StoreInOrder := by
  refine h.of_slots (.inr rfl) rfl rfl (fun l => ?_) (State.ConfigsInRange.kept h.configs (s.beginReset_narrows cause).configsKept)
  cases l with
  | a => exact h.settings .a
  | b => exact h.settings .b

theorem State.makeAllDue_storeView (is : List Index) (s : State) :
    (is.foldl State.makeDueIfNew s).storeView = s.storeView := by
  induction is generalizing s with
  | nil => rfl
  | cons i is ih =>
    refine (ih _).trans ?_
    unfold State.makeDueIfNew
    split
    · split <;> simp
    · rfl

/-- The load of an image leaves the store without a job, with the newest generation the current one (R136, R143). -/
theorem State.loaded_storeInOrder (s : State) (cause : ResetCause) (strap : BitVec 2) : (s.loaded cause strap).StoreInOrder where
  settings l := by
    have inRange := s.loadedImage_inRange
    simp only [Image.inRange, Bool.and_eq_true] at inRange
    obtain ⟨⟨⟨⟨a, b⟩, -⟩, -⟩, -⟩ := inRange
    cases l
    · exact a
    · exact b
  configs i n hn := by
    obtain ⟨r, hr, -, rfl⟩ := Image.table_some hn
    exact (Image.inRange_records s.loadedImage_inRange).1 r hr
  job j hj := nomatch hj
  current := .inr (State.newestGeneration_congr (s := s) rfl).symm

/-- The part comes out of reset with the store in order (R143, R161). -/
theorem State.comeOut_storeInOrder (s : State) (cause : ResetCause) (strap : BitVec 2) : (s.comeOut cause strap).StoreInOrder := by
  have loaded := s.loaded_storeInOrder cause strap
  refine loaded.of_view ?_ (State.ConfigsInRange.kept loaded.configs (((State.makeAllDue_configsKept _ _).trans
    (State.askArbiter_configsKept _ _)).trans (State.askArbiter_configsKept _ _)))
  simp only [State.comeOut, State.askArbiter_storeView, State.makeAllDue_storeView]

theorem exec_storeInOrder_of_reset {c : Instr} {s t : State} (hs : s.StoreInOrder) (hc : resetRow c = true)
    (h : exec c s = .next t) : t.StoreInOrder := by
  cases c with
  | powerUp => cases h; exact hs.beginReset _
  | rstPinLow =>
    cases h
    split
    · exact hs
    · exact hs.beginReset _
  | resetComplete =>
    cases h
    split
    · exact s.comeOut_storeInOrder _ _
    · exact hs
  | resetRequest =>
    cases h
    refine State.take_elim _ hs fun id rq => ?_
    have accepted := hs.accept id rq
    split
    · exact accepted.answer rq _ _
    · exact accepted.beginReset _
  | _ => cases hc

/-! ## Every step -/

theorem exec_storeInOrder {c : Instr} {s t : State} (distinct : s.AddressesDistinct) (hs : s.StoreInOrder)
    (h : exec c s = .next t) : t.StoreInOrder := by
  cases hreset : resetRow c with
  | true => exact exec_storeInOrder_of_reset hs hreset h
  | false =>
    have configs : t.ConfigsInRange := exec_configsInRange hs.configs (fun a b e => by rw [e] at hreset; cases hreset) h
    cases hphase : phaseOfRow c with
    | some number => exact exec_storeInOrder_of_phase hs hphase h
    | none =>
      cases hrow : storeRow c with
      | false => exact hs.of_view (exec_storeView hrow h) configs
      | true =>
        cases c with
        | lineSet => exact hs.of_setsLine (execLineSet_storeView h) configs
        | storeSave => exact execStoreSave_storeInOrder distinct hs h
        | storeErase => exact execStoreErase_storeInOrder hs h
        | resetRequest | powerUp | rstPinLow | resetComplete => cases hreset
        | _ => simp [storeRow, hphase] at hrow

/-- Settles O44: the phases of a SAVE job, the rows that come late, the rows of other blocks, and the order of the store, which a reset
restores from the image it loads. -/
theorem saveJobPhases : Obligations.SaveJobPhases := by
  refine ⟨?phases, fun c number s hc h => exec_of_otherPhase hc h,
    fun c s t job hs hj hc hrequest hpower hpin h => ?frame, fun s t distinct hs h => ?order⟩
  case frame =>
    have kept := exec_storeView_of_job (by rw [hj]; nofun) hs hc hrequest hpower hpin h
    obtain ⟨same, phases, slot, generation⟩ := kept.fields
    exact ⟨same.trans hj, phases, congrFun slot .s0, congrFun slot .s1, generation⟩
  case order =>
    obtain rfl | ⟨c, rest, -, h⟩ := step_cases h
    · exact hs
    · exact exec_storeInOrder (distinct.kept (s.setPending_narrows rest).configsKept) (hs.of_view rfl hs.configs) h
  case phases =>
    intro s tag phase image target generation hs hj own ended
    have failed := s.endSave_failed tag generation
    refine ⟨fun hp => ?write, fun hp => ?readBack, fun hp => ?markWrite, fun hp => ?expiry, fun number equal cleared => ?ignored⟩
    case write =>
      subst hp
      rw [exec_saveWriteCompletion hs, exec_saveWriteTimerExpiry hs, State.inPhase_own hj (List.mem_singleton_self _),
        State.inPhase_own hj (List.mem_singleton_self _), failed]
      cases target <;> exact ⟨rfl, rfl⟩
    case readBack =>
      subst hp
      simp only [exec_saveVerifyReadBack hs, own, State.inPhase_own hj (List.mem_singleton_self _), failed]
      exact ⟨rfl, rfl⟩
    case markWrite =>
      subst hp
      rw [exec_saveMarkWriteCompletion hs, State.inPhase_own hj (List.mem_singleton_self _), State.endSave_ok]
      cases target <;> rfl
    case expiry =>
      have verifying : phase ∈ [SavePhase.readBack, .markWrite] := by
        cases phase with
        | write => exact absurd rfl hp
        | readBack => exact List.mem_cons_self
        | markWrite => exact List.mem_cons_of_mem _ (List.mem_singleton_self _)
      rw [exec_saveVerifyTimerExpiry hs, State.inPhase_own hj verifying, failed]
    case ignored =>
      have foreign {phases : List SavePhase} (hp : phase ∉ phases) := State.inPhase_foreign hj hp number
      have another {p : SavePhase} (hp : phase ≠ p) : phase ∉ [p] := fun h => hp (List.mem_singleton.mp h)
      simp only [exec_saveWriteCompletion hs, exec_saveWriteTimerExpiry hs, exec_saveVerifyReadBack hs,
        exec_saveMarkWriteCompletion hs, exec_saveVerifyTimerExpiry hs, exec_eraseInvalidationCompletion hs,
        exec_eraseTimerExpiry hs, State.inErase_of_save hj]
      refine ⟨fun hp => ?_, fun hp => ?_, fun hp => ?_, fun hp => ?_, trivial, trivial⟩
      · exact ⟨congrArg _ (foreign (another hp) _), congrArg _ (foreign (another hp) _)⟩
      · exact congrArg _ (foreign (another hp) _)
      · exact congrArg _ (foreign (another hp) _)
      · exact congrArg _ (foreign (by rw [hp]; decide) _)

end Sys2Proof.Machine
/-! SUPPORT. The accounts of law L1 in the middle of an operation, while reservations are still to be settled by replies: the operations on
messages, lines and the store job (R121, R153, R155, R158). -/

namespace Sys2Proof.Machine

/-! ## What fits a reservation -/

/-- An entry of the demand queue keeps the reservation of its largest reply (R109, R121). -/
def DemandEntry.Sized (e : DemandEntry) : Prop :=
  e.reserved = largestDeferred e.node e.operation ∧ e.operation.admitted

/-- An OK outcome carries no more than the operation asks for (R35). -/
def FieldOutcome.Fits (o : FieldOutcome) (op : Operation) : Prop := ∀ content, o = .ok content → content.length ≤ op.answerLength

/-- The largest reply of an operation holds the reply of every outcome that fits it (R113, R121). -/
theorem FieldOutcome.Fits.data_le {o : FieldOutcome} {op : Operation} (h : o.Fits op) (ha : op.admitted) :
    8 + o.data.length ≤ op.largestReply := by
  have empty : 8 ≤ op.largestReply := by
    cases op <;> simp only [Operation.largestReply] <;> omega
  cases o with
  | ok content =>
    have length := h content rfl
    cases op <;> simp only [Operation.answerLength, Operation.largestReply, FieldOutcome.data] at * <;> omega
  | exception reason =>
    cases op with
    | read start count => have least := ha.1; simp only [Operation.largestReply, FieldOutcome.data, List.length_singleton]; omega
    | ping | write => simp [Operation.largestReply, FieldOutcome.data]
  | timeout | corrupt | collision | lineOff | lineFault => exact empty

theorem FieldOutcome.fits_of_empty {o : FieldOutcome} (h : o.data = []) (op : Operation) : o.Fits op := by
  rintro content rfl
  simp [show content = [] from h]

/-- What the checks of R35 accept fits the operation. -/
theorem judgeAnswer_fits (op : Operation) (kind : Byte) (payload : List Byte) : (judgeAnswer op kind payload).Fits op := by
  intro content h
  unfold judgeAnswer at h
  split at h
  · split at h
    · cases h; exact le_of_eq ‹_›
    · cases h
  · split at h
    · split at h
      · split at h <;> cases h
      · cases h
    · cases h

theorem judge_fits {t : Transaction} {bytes : List Byte} {o : FieldOutcome} (h : judge t bytes = .ends o) : o.Fits t.operation := by
  unfold judge at h
  split at h
  · split at h
    · split at h
      · cases h; exact judgeAnswer_fits _ _ _
      · cases h
    · cases h; exact nofun
  · cases h; exact nofun

/-- A deferred reply of a demand with the outcome's data, and one of a broadcast without, fits its reservation (R113, R116). -/
theorem demandReply_length_le (l : LineId) (tag : Byte) (node : Option Index) {op : Operation} (status : Status) {data : List Byte}
    (hd : 8 + data.length ≤ op.largestReply) :
    (Message.reply (demandReply l tag node op status data)).length ≤ largestDeferred node op := by
  rw [Message.length_reply]
  cases node with
  | none => exact le_refl 7
  | some i => simp only [demandReply, largestDeferred, List.length_append, List.length_cons, List.length_nil]; omega

/-- A sized entry leaves its queue with a reply that fits (R117, R118, R119). -/
theorem DemandEntry.Sized.fits {e : DemandEntry} (h : e.Sized) (l : LineId) (status : Status) :
    (Message.reply (demandReply l e.tag e.node e.operation status [])).length ≤ e.reserved := by
  rw [h.1]
  exact demandReply_length_le l e.tag e.node status (FieldOutcome.Fits.data_le (o := .timeout) nofun h.2)

/-- The reply of a scan job carries three bytes for each find (R130). -/
theorem foundBytes_length (found : List Found) : (foundBytes found).length = 3 * found.length := by
  induction found with
  | nil => rfl
  | cons f fs ih =>
    simp only [foundBytes, List.flatMap_cons, List.length_append, List.length_cons, halfBytes_length] at *
    omega

/-- A reply of a job with no more finds than its list holds fits the reservation of 57 bytes (R123, R124). -/
theorem ScanJob.reply_length_le {j : ScanJob} (h : j.found.length ≤ 16) (l : LineId) (status : Status) :
    (Message.reply (j.reply l status)).length ≤ 57 := by
  simp only [Message.length_reply, ScanJob.reply, List.length_append, foundBytes_length, List.length_cons, List.length_nil]
  omega

/-! ## The accounts of a line -/

/-- The reservation that a transaction keeps, for a demand or broadcast (R121). -/
def TransactionKind.reserved : TransactionKind → Nat
  | .demand _ _ reserved => reserved
  | .broadcast _ reserved => reserved
  | .poll _ _ | .recoveryProbe _ | .scanProbe => 0

theorem Line.flightReserved_of_some {x : Line} {t : Transaction} (h : x.transaction = some t) :
    x.flightReserved = t.kind.reserved := by
  unfold Line.flightReserved
  rw [h]
  dsimp only
  cases t.kind <;> rfl

theorem Line.flightReserved_of_none {x : Line} (h : x.transaction = none) : x.flightReserved = 0 := by
  unfold Line.flightReserved
  rw [h]

/-- The reservations that stand for the requests on a line. -/
def Line.standing (x : Line) : Nat := x.queueReserved + x.flightReserved + x.scanReserved

/-- What a line has to hold for the accounts: a record only while it is busy, entries and a transaction of the sizes they are reserved for,
and a scan job that has room for a find (R56, R121, R129). -/
structure Line.Accounted (x : Line) : Prop where
  quiet : x.Quiet
  entries : ∀ e ∈ x.demandQueue, e.Sized
  flight : ∀ t, x.transaction = some t → t.Sized
  found : ∀ j, x.scan = some j → j.found.length < Config.foundListCapacity

/-- A change of a line keeps it accounted, and turns reservations `a` still to be settled and those standing into `b` and those standing
after it. -/
def Line.Moves (x y : Line) (a b : Nat := 0) : Prop := x.Accounted → y.Accounted ∧ a + x.standing = b + y.standing

/-- The work of a line stays, and the line may enter a state that allows its record. -/
theorem Line.Moves.of_work {x y : Line} (hq : x.Quiet → y.Quiet) (ht : y.transaction = x.transaction)
    (hd : y.demandQueue = x.demandQueue) (hj : y.scan = x.scan) : x.Moves y := fun h => by
  refine ⟨⟨hq h.quiet, hd ▸ h.entries, ht ▸ h.flight, hj ▸ h.found⟩, ?_⟩
  simp only [Line.standing, Line.queueReserved, Line.flightReserved, Line.scanReserved, ht, hd, hj]

theorem Line.Moves.of_same {x y : Line} (hs : y.state = x.state) (ht : y.transaction = x.transaction)
    (hd : y.demandQueue = x.demandQueue) (hj : y.scan = x.scan) : x.Moves y :=
  .of_work (.of_record (.inl ⟨hs, ht⟩)) ht hd hj

/-- The demand queue is replaced by one with sized entries. -/
theorem Line.Moves.of_queue {x y : Line} {a b : Nat} (hs : y.state = x.state) (ht : y.transaction = x.transaction)
    (hj : y.scan = x.scan) (hd : (∀ e ∈ x.demandQueue, e.Sized) → ∀ e ∈ y.demandQueue, e.Sized)
    (hr : a + x.queueReserved = b + y.queueReserved) : x.Moves y a b := fun h => by
  refine ⟨⟨.of_record (.inl ⟨hs, ht⟩) h.quiet, hd h.entries, ht ▸ h.flight, hj ▸ h.found⟩, ?_⟩
  simp only [Line.standing, Line.flightReserved, Line.scanReserved, ht, hj]
  omega

/-- The record of a line is replaced by a sized one in a busy state, or by none. -/
theorem Line.Moves.of_record {x y : Line} {a b : Nat} (hb : y.state.busy = true ∨ y.transaction = none)
    (hd : y.demandQueue = x.demandQueue) (hj : y.scan = x.scan)
    (ht : (∀ t, x.transaction = some t → t.Sized) → ∀ t, y.transaction = some t → t.Sized)
    (hr : a + x.flightReserved = b + y.flightReserved) : x.Moves y a b := fun h => by
  refine ⟨⟨.of_record (.inr hb) h.quiet, hd ▸ h.entries, ht h.flight, hj ▸ h.found⟩, ?_⟩
  simp only [Line.standing, Line.queueReserved, Line.scanReserved, hd, hj]
  omega

/-- The scan job of a line is replaced. -/
theorem Line.Moves.of_scan {x y : Line} {a b : Nat} (hs : y.state = x.state) (ht : y.transaction = x.transaction)
    (hd : y.demandQueue = x.demandQueue)
    (hj : (∀ j, x.scan = some j → j.found.length < Config.foundListCapacity) →
      ∀ j, y.scan = some j → j.found.length < Config.foundListCapacity)
    (hr : a + x.scanReserved = b + y.scanReserved) : x.Moves y a b := fun h => by
  refine ⟨⟨.of_record (.inl ⟨hs, ht⟩) h.quiet, hd ▸ h.entries, ht ▸ h.flight, hj h.found⟩, ?_⟩
  simp only [Line.standing, Line.queueReserved, Line.flightReserved, ht, hd]
  omega

/-! ## The accounts of the part -/

/-- Every stored payload has at most 48 bytes (R91). -/
def State.PayloadsFit (s : State) : Prop := ∀ i x r, s.snapshot i = some x → x.record = some r → r.payload.length ≤ 48

/-- The accounts in the middle of an operation: law L1 holds, and the reservation total is that of the reservations standing and of `owed`
bytes, which are still to be settled by a reply or a job (R153, R158). -/
structure State.Balanced (s : State) (owed : Nat) : Prop where
  space : s.SpaceKept
  total : s.reserved = owed + s.standing
  lines : ∀ l, (s.line l).Accounted
  payloads : s.PayloadsFit

/-- An operation keeps the accounts, from a state in which `a` bytes are still to be settled to one in which `b` are. -/
def State.Balances (s t : State) (a b : Nat := 0) : Prop := ∀ owed, s.Balanced (a + owed) → t.Balanced (b + owed)

theorem State.Balances.refl (s : State) (a : Nat := 0) : s.Balances s a a := fun _ => id

theorem State.Balances.trans {s t u : State} {a b c : Nat} (h : s.Balances t a b) (g : t.Balances u b c) : s.Balances u a c :=
  fun owed => g owed ∘ h owed

/-- Other reservations that are still to be settled stay so. -/
theorem State.Balances.frame {s t : State} {a b : Nat} (h : s.Balances t a b) (c : Nat) : s.Balances t (a + c) (b + c) :=
  fun owed hs => by
    rw [Nat.add_assoc] at hs ⊢
    exact h (c + owed) hs

/-- The reservations standing, by line. -/
theorem State.standing_eq (s : State) : s.standing = s.lineA.standing + s.lineB.standing + s.jobReserved := rfl

/-- An update of fields that the accounts do not read. -/
theorem State.Balances.of_fields {s t : State} {a : Nat} (ho : t.outbound = s.outbound) (hr : t.reserved = s.reserved)
    (ha : t.lineA = s.lineA) (hb : t.lineB = s.lineB) (hj : t.storeJob = s.storeJob) (hp : t.snapshots = s.snapshots) :
    s.Balances t a a := fun owed h => by
  refine ⟨?_, ?_, fun l => State.line_congr ha hb l ▸ h.lines l, fun i => State.snapshot_congr hp i ▸ h.payloads i⟩
  · unfold State.SpaceKept State.occupied
    rw [ho, hr]
    exact h.space
  · rw [State.standing, State.jobReserved, ha, hb, hj, hr]
    exact h.total

/-- Messages are queued and reservations of `n` bytes released, within law L1. -/
theorem QueueOnly.balances {s t : State} {n : Nat} (h : QueueOnly s t) (hr : t.reserved = s.reserved - n)
    (hs : n ≤ s.reserved → s.SpaceKept → t.SpaceKept) : s.Balances t n := fun owed hb => by
  have total := hb.total
  refine ⟨hs (by omega) hb.space, ?_, fun l => h.line l ▸ hb.lines l, fun i => h.snapshot i ▸ hb.payloads i⟩
  rw [hr, total, State.standing_eq t, h.lineA, h.lineB, State.jobReserved, h.storeJob]
  rw [State.standing_eq, State.jobReserved]
  omega

/-- Replies settle the reservations they were owed under, if each fits its own. -/
theorem Settles.balances {s t : State} {rs : List Reply} {n : Nat} {ok : Prop} (h : Settles s t rs n ok) (hok : ok) : s.Balances t n :=
  h.posts.core.balances h.reserved (h.space hok)

theorem State.mark_balances (s : State) (sub : Subject) : s.Balances (s.mark sub) := by
  obtain ⟨posts, -, reserved, -, space⟩ := s.mark_posts sub
  exact posts.core.balances (by simpa using reserved) fun _ => space

theorem State.walk_balances (s : State) : s.Balances s.walk := s.walk_settles.balances trivial

theorem State.rejectFrame_balances (s : State) : s.Balances s.rejectFrame :=
  State.Balances.trans (t := { s with linkErrors := countLinkError s.linkErrors }) (.of_fields rfl rfl rfl rfl rfl rfl)
    (State.mark_balances _ _)

theorem State.withdraw_balances (s : State) (i : Index) : s.Balances (s.withdraw i) :=
  State.Balances.trans (t := s.without i) (.of_fields rfl rfl rfl rfl rfl rfl) (State.walk_balances _)

theorem State.queueReply_balances (s : State) {reservation : Nat} {r : Reply} (h : (Message.reply r).length ≤ reservation) :
    s.Balances (s.queueReply reservation r) reservation := (s.queueReply_settles reservation r).balances h

/-- A deferred reply settles the reservation that its request kept (R121, R158). -/
theorem State.deferredReply_balances (s : State) (tag : Byte) {reservation : Nat} {r : Reply}
    (h : (Message.reply r).length ≤ reservation) : s.Balances ((s.dropTag tag).queueReply reservation r) reservation :=
  State.Balances.trans (t := s.dropTag tag) (.of_fields rfl rfl rfl rfl rfl rfl) (State.queueReply_balances _ h)

/-- The reply of a request just taken settles its reservation (R156, R158). -/
theorem State.answer_balances (s : State) {rq : Request} (status : Status) {data : List Byte} (h : 6 + data.length ≤ rq.reservation) :
    s.Balances (s.answer rq status data) rq.reservation := s.queueReply_balances (by simpa using h)

/-! ## Places of the state -/

theorem State.setNode_balances (s : State) (i : Index) (m : Option Node) {a : Nat} : s.Balances (s.setNode i m) a a :=
  .of_fields rfl rfl rfl rfl rfl rfl

theorem State.reportChange_balances (s : State) {a : Nat} : s.Balances s.reportChange a a := .of_fields rfl rfl rfl rfl rfl rfl

theorem State.addTag_balances (s : State) (tag : Byte) {a : Nat} : s.Balances (s.addTag tag) a a := .of_fields rfl rfl rfl rfl rfl rfl

theorem State.setSlot_balances (s : State) (id : SlotId) (x : RequestSlot) : s.Balances (s.setSlot id x) := by
  cases id <;> exact .of_fields rfl rfl rfl rfl rfl rfl

theorem State.setStoreSlot_balances (s : State) (id : SlotId) (x : StoreSlot) {a : Nat} : s.Balances (s.setStoreSlot id x) a a := by
  cases id <;> exact .of_fields rfl rfl rfl rfl rfl rfl

theorem State.acknowledge_balances (s : State) (ack : Bool) : s.Balances (s.acknowledge ack) := .of_fields rfl rfl rfl rfl rfl rfl

/-- A snapshot is replaced by one whose payload fits. -/
theorem State.setSnapshot_balances (s : State) (i : Index) {x : Option Snapshot} {a : Nat}
    (hx : s.PayloadsFit → ∀ y r, x = some y → y.record = some r → r.payload.length ≤ 48) : s.Balances (s.setSnapshot i x) a a := by
  intro owed h
  refine ⟨h.space, h.total, h.lines, fun j y r hy hr => ?_⟩
  by_cases hj : j = i
  · subst hj
    exact hx h.payloads y r (by simpa using hy) hr
  · rw [State.snapshot_setSnapshot_other s x hj] at hy
    exact h.payloads j y r hy hr

/-- A line is replaced. -/
theorem State.updLine_balances {s : State} {l : LineId} {f : Line → Line} {a b : Nat} (h : (s.line l).Moves (f (s.line l)) a b) :
    s.Balances (s.updLine l f) a b := by
  intro owed hb
  obtain ⟨accounted, moved⟩ := h (hb.lines l)
  have total := hb.total
  refine ⟨?_, ?_, fun k => ?_, fun i => by rw [State.snapshot_updLine]; exact hb.payloads i⟩
  · unfold State.SpaceKept State.occupied
    rw [State.updLine_outbound, State.updLine_reserved]
    exact hb.space
  · rw [State.updLine_reserved, total, State.standing_eq, State.standing_eq, State.jobReserved, State.jobReserved,
      State.updLine_storeJob]
    cases l <;> simp only [State.updLine, State.setLine, State.line] at moved ⊢ <;> omega
  · by_cases hk : k = l
    · subst hk; rw [State.line_updLine_same]; exact accounted
    · rw [State.line_updLine_other s f hk]; exact hb.lines k

theorem State.setLine_balances {s : State} {l : LineId} {x : Line} (h : (s.line l).Moves x) : s.Balances (s.setLine l x) :=
  State.updLine_balances (f := fun _ => x) h

/-- The store job is replaced, with fields that the accounts do not read. -/
theorem State.setJob_balances {s t : State} {a b : Nat} (ho : t.outbound = s.outbound) (hr : t.reserved = s.reserved)
    (ha : t.lineA = s.lineA) (hb : t.lineB = s.lineB) (hp : t.snapshots = s.snapshots)
    (hj : a + s.jobReserved = b + t.jobReserved) : s.Balances t a b := by
  intro owed h
  refine ⟨?_, ?_, fun l => State.line_congr ha hb l ▸ h.lines l, fun i => State.snapshot_congr hp i ▸ h.payloads i⟩
  · unfold State.SpaceKept State.occupied
    rw [ho, hr]
    exact h.space
  · have total := h.total
    rw [State.standing_eq] at total ⊢
    rw [hr, total, ha, hb]
    omega

/-- A request leaves its slot, and its reservation is made within free space (R154). -/
theorem State.accept_balances {s : State} {id : SlotId} {rq : Request} (h : rq.reservation ≤ s.freeSpace) :
    s.Balances (s.accept id rq) 0 rq.reservation := by
  intro owed hb
  have space : s.occupied + s.reserved ≤ 2048 := hb.space
  have free : rq.reservation ≤ 2048 - s.occupied - s.reserved := h
  have total := hb.total
  refine ⟨?_, ?_, fun l => by rw [State.line_accept]; exact hb.lines l, fun i => by rw [State.snapshot_accept]; exact hb.payloads i⟩
  · show (s.accept id rq).occupied + (s.reserved + rq.reservation) ≤ 2048
    rw [State.occupied, State.accept_outbound, ← State.occupied]
    omega
  · rw [State.accept_reserved, total, State.standing_eq (s.accept id rq), State.jobReserved, State.accept_storeJob, State.accept_lineA,
      State.accept_lineB, State.standing_eq, State.jobReserved]
    omega

end Sys2Proof.Machine
/-! SUPPORT. Outcomes, the arbiter and the Line Engine keep the accounts of law L1: a reservation leaves the place it stands in as its reply
is queued (R121, R129, R158). -/

namespace Sys2Proof.Machine

/-! ## Purges, flushes and the end of a scan job -/

/-- The reservations of a queue are those of the entries picked out and those of the rest. -/
theorem sum_reserved_filter (es : List DemandEntry) (p : DemandEntry → Prop) [DecidablePred p] :
    (es.map DemandEntry.reserved).sum =
      ((es.filter fun e => p e).map DemandEntry.reserved).sum + ((es.filter fun e => ¬p e).map DemandEntry.reserved).sum := by
  induction es with
  | nil => rfl
  | cons e es ih =>
    by_cases h : p e <;> simp [h, ih] <;> omega

theorem State.purge_balances (s : State) (l : LineId) (i : Index) (status : Status) : s.Balances (s.purge l i status) := by
  intro owed h
  have sized := (h.lines l).entries
  have fits : EntriesFit l status ((s.line l).demandQueue.filter fun e => e.node = some i) :=
    fun e he => (sized e (List.mem_of_mem_filter he)).fits l status
  refine State.Balances.trans (State.updLine_balances ?_) ((s.purge_settles l i status).balances fits) owed h
  refine .of_queue rfl rfl rfl (fun h e he => h e (List.mem_of_mem_filter he)) ?_
  rw [Nat.zero_add]
  exact sum_reserved_filter (s.line l).demandQueue fun e => e.node = some i

theorem State.flush_balances (s : State) (l : LineId) (status : Status) : s.Balances (s.flush l status) := by
  intro owed h
  have fits : EntriesFit l status (s.line l).demandQueue := fun e he => ((h.lines l).entries e he).fits l status
  refine State.Balances.trans (State.updLine_balances ?_) ((s.flush_settles l status).balances fits) owed h
  exact .of_queue rfl rfl rfl (fun _ => nofun) (by simp [Line.queueReserved])

/-- A line gives its scan job up. -/
theorem Line.endScan_moves (x : Line) : x.Moves { x with scan := none } 0 (if x.scan.isSome then 57 else 0) :=
  .of_scan rfl rfl rfl (fun _ => nofun) (by simp [Line.scanReserved, Config.scanReservation])

theorem State.endScan_balances (s : State) (l : LineId) (status : Status) : s.Balances (s.endScan l status) := by
  intro owed h
  have fits (j : ScanJob) (hj : (s.line l).scan = some j) : (Message.reply (j.reply l status)).length ≤ 57 :=
    ScanJob.reply_length_le (Nat.le_of_lt ((h.lines l).found j hj)) l status
  exact State.Balances.trans (State.updLine_balances (s.line l).endScan_moves) ((s.endScan_settles l status).balances fits) owed h

/-! ## Outcomes -/

theorem State.withhold_balances (s : State) (l : LineId) (i : Index) (m : Node) (status : Status) :
    s.Balances (s.withhold l i m status) :=
  ((s.setNode_balances i _).trans (State.updLine_balances (.of_same rfl rfl rfl rfl))).trans (State.purge_balances _ l i status)

theorem State.makeDue_balances (s : State) (l : LineId) (i : Index) : s.Balances (s.makeDue l i) :=
  State.updLine_balances (.of_same rfl rfl rfl rfl)

theorem State.armRecovery_balances (s : State) (l : LineId) (i : Index) : s.Balances (s.armRecovery l i) :=
  State.updLine_balances (.of_same rfl rfl rfl rfl)

theorem State.goOffline_balances (s : State) (l : LineId) (i : Index) (n : Node) : s.Balances (s.goOffline l i n) := by
  rw [State.goOffline_eq]
  exact ((s.withhold_balances l i _ _).trans (State.mark_balances _ _)).trans (State.armRecovery_balances _ l i)

theorem State.applyService_balances (s : State) (l : LineId) (i : Index) (n : Node) (o : FieldOutcome) :
    s.Balances (s.applyService l i n o) := by
  have answered (k : Node) : s.Balances
      (if n.state = .new then (s.setNode i (some k)).mark (.nodeState i) else s.setNode i (some k)) := by
    split
    · exact (s.setNode_balances i _).trans (State.mark_balances _ _)
    · exact s.setNode_balances i _
  cases o with
  | ok content => exact answered n.answeredOk
  | exception reason => exact answered (n.answeredException reason)
  | collision | lineOff | lineFault => exact s.setNode_balances i _
  | timeout | corrupt =>
    rw [State.applyService_failed s l i n (by simp)]
    split
    · exact s.setNode_balances i _
    · exact s.goOffline_balances l i n

theorem State.comeBack_balances (s : State) (l : LineId) (i : Index) (n : Node) : s.Balances (s.comeBack l i n) := by
  rw [State.comeBack_eq]
  exact ((s.setNode_balances i _).trans (State.mark_balances _ _)).trans (State.updLine_balances (.of_same rfl rfl rfl rfl))

theorem State.applyProbe_balances (s : State) (l : LineId) (i : Index) (n : Node) (o : FieldOutcome) :
    s.Balances (s.applyProbe l i n o) := by
  cases o with
  | ok content => exact s.comeBack_balances l i n.answeredOk
  | exception reason => exact s.comeBack_balances l i (n.answeredException reason)
  | timeout | corrupt | collision | lineOff | lineFault => exact (s.setNode_balances i _).trans (State.armRecovery_balances _ l i)

theorem State.applyOutcome_balances (s : State) (l : LineId) (i : Index) (probe : Bool) (o : FieldOutcome) :
    s.Balances (s.applyOutcome l i probe o) := by
  unfold State.applyOutcome
  split
  · exact .refl s
  · split
    · exact .refl s
    · exact s.setNode_balances i _
    · split
      · exact s.applyProbe_balances l i _ o
      · exact s.applyService_balances l i _ o

theorem State.rearmPoll_balances (s : State) (l : LineId) (i : Index) (due : Word) : s.Balances (s.rearmPoll l i due) := by
  have armed (w : Option Word) : s.Balances (s.updLine l fun x => x.setPollTimer i w) := State.updLine_balances (.of_same rfl rfl rfl rfl)
  unfold State.rearmPoll
  split
  · exact .refl s
  · dsimp only
    split
    · exact armed _
    · exact (armed _).trans (State.setNode_balances _ i _)

/-- The snapshot that stores a payload has that payload (R92). -/
theorem State.storeSnapshot_payload (s : State) (i : Index) (payload : List Byte) : ∃ x r, x.record = some r ∧ r.payload = payload ∧
    (s.storeSnapshot i payload = s.setSnapshot i (some x) ∨
      s.storeSnapshot i payload = (s.setSnapshot i (some x)).mark (.change i)) := by
  unfold State.storeSnapshot
  extract_lets old changed u
  refine ⟨{ update := if changed then old.update + 1 else old.update
            record := some { payload := payload, captured := s.partTime, agedOut := false } }, _, rfl, rfl, ?_⟩
  by_cases h : changed ∧ ((u.node i).map fun n => n.config.notify) = some true
  · exact .inr (if_pos h)
  · exact .inl (if_neg h)

theorem State.storeSnapshot_balances (s : State) (i : Index) {payload : List Byte} (h : payload.length ≤ 48) :
    s.Balances (s.storeSnapshot i payload) := by
  obtain ⟨x, r, hx, rfl, e⟩ := s.storeSnapshot_payload i payload
  have stored : s.Balances (s.setSnapshot i (some x)) := s.setSnapshot_balances i fun _ y q hy hq => by
    cases hy
    cases hx.symm.trans hq
    exact h
  obtain e | e := e <;> rw [e]
  · exact stored
  · exact stored.trans (State.mark_balances _ _)

theorem State.putBackPoll_balances (s : State) (l : LineId) (i : Index) (due : Word) : s.Balances (s.putBackPoll l i due) :=
  State.updLine_balances (.of_same rfl rfl rfl rfl)

theorem State.afterPoll_balances (s : State) (l : LineId) (i : Index) (due : Word) {o : FieldOutcome}
    (h : ∀ payload, o = .ok payload → payload.length ≤ 48) : s.Balances (s.afterPoll l i due o) := by
  have unlessOffline : s.Balances (if (s.node i).map Node.state = some .offline then s else s.rearmPoll l i due) := by
    split
    · exact .refl s
    · exact s.rearmPoll_balances l i due
  cases o with
  | ok payload => exact (s.storeSnapshot_balances i (h payload rfl)).trans (State.rearmPoll_balances _ l i due)
  | exception | collision => exact s.rearmPoll_balances l i due
  | timeout | corrupt => exact unlessOffline
  | lineOff | lineFault => exact s.putBackPoll_balances l i due

/-- A scan job is replaced by one that has room for a find. -/
theorem State.setScan_balances {s : State} {l : LineId} {j k : ScanJob} (hj : (s.line l).scan = some j)
    (hk : j.found.length < Config.foundListCapacity → k.found.length < Config.foundListCapacity) :
    s.Balances (s.updLine l fun x => { x with scan := some k }) :=
  State.updLine_balances (.of_scan rfl rfl rfl (fun h _ e => Option.some.inj e ▸ hk (h j hj)) (by simp [Line.scanReserved, hj]))

/-- A probe adds one find at most (R128). -/
theorem ScanJob.record_found_length_le (j : ScanJob) (address : Byte) (o : FieldOutcome) :
    (j.record address o).found.length ≤ j.found.length + 1 := by
  cases o <;> simp [ScanJob.record, ScanJob.settle]

theorem State.scanResult_balances (s : State) (l : LineId) (address : Byte) (o : FieldOutcome) :
    s.Balances (s.scanResult l address o) := by
  cases hj : (s.line l).scan with
  | none => rw [State.scanResult_of_none hj]; exact .refl s
  | some j =>
    rw [State.scanResult_of_some hj]
    split
    · rename_i ho
      have same : (j.record address o).found = j.found := by rcases ho with rfl | rfl <;> rfl
      exact State.setScan_balances hj fun h => same ▸ h
    · cases he : (j.record address o).ending with
      | none => exact State.setScan_balances hj fun _ => ScanJob.found_of_not_ending he
      | some status =>
        intro owed h
        have found : j.found.length < 16 := (h.lines l).found j hj
        have recorded := j.record_found_length_le address o
        have settles := (s.updLine l fun x => { x with scan := some (j.record address o) }).endScan_settles l status
        rw [State.updLine_updLine, State.line_updLine_same] at settles
        have gone : (s.line l).Moves { s.line l with scan := none } 0 57 := by simpa [hj] using (s.line l).endScan_moves
        refine State.Balances.trans (State.updLine_balances gone) (settles.balances ?_) owed h
        rintro k ⟨⟩
        exact ScanJob.reply_length_le (by omega) l status

/-- The delivery of an outcome settles the reservation of the transaction, if it keeps one (R44, R121). -/
theorem State.deliver_balances (s : State) (l : LineId) {t : Transaction} {o : FieldOutcome} (ht : t.Sized) (ho : o.Fits t.operation) :
    s.Balances (s.deliver l t o) t.kind.reserved := by
  unfold Transaction.Sized at ht
  cases hk : t.kind with
  | poll i due =>
    rw [hk] at ht
    obtain ⟨start, count, read, most⟩ := ht
    have payload (content : List Byte) (h : o = .ok content) : content.length ≤ 48 := by
      have length := ho content h
      rw [read, Operation.answerLength] at length
      omega
    unfold State.deliver
    rw [hk]
    dsimp only
    split
    · exact (s.applyOutcome_balances l i false o).trans (State.afterPoll_balances _ l i due payload)
    · exact s.applyOutcome_balances l i false o
  | recoveryProbe i => rw [State.deliver_recoveryProbe _ _ _ hk]; exact s.applyOutcome_balances l i true o
  | demand i tag reserved =>
    rw [hk] at ht
    obtain ⟨rfl, admitted⟩ := ht
    rw [State.deliver_demand _ _ _ hk]
    exact (s.deferredReply_balances tag (demandReply_length_le l tag (some i) o.status (ho.data_le admitted))).trans
      (State.applyOutcome_balances _ l i false o)
  | broadcast tag reserved =>
    rw [hk] at ht
    obtain ⟨rfl, -⟩ := ht
    rw [State.deliver_broadcast _ _ _ hk]
    exact s.deferredReply_balances tag (le_refl 7)
  | scanProbe => rw [State.deliver_scanProbe _ _ hk]; exact s.scanResult_balances l _ o

/-! ## The arbiter -/

/-- A new sized record takes the place of none on an IDLE line, with the reservation that leaves what waits, if there is one. -/
theorem Line.Moves.startAttempt {x y : Line} {t : Transaction} (hi : x.state = .idle)
    (ht : x.Accounted → t.Sized) (hd : ∀ e ∈ y.demandQueue, e ∈ x.demandQueue)
    (hj : ∀ j, y.scan = some j → ∃ k, x.scan = some k ∧ j.found = k.found)
    (hr : x.queueReserved + x.scanReserved = y.queueReserved + t.kind.reserved + y.scanReserved) :
    x.Moves (y.startAttempt t) := fun h => by
  have idle : x.transaction = none := h.quiet (by rw [hi]; rfl)
  refine ⟨⟨nofun, fun e he => h.entries e (hd e he), fun _ e => Option.some.inj e ▸ ht h, fun j e => ?_⟩, ?_⟩
  · obtain ⟨k, hk, same⟩ := hj j e
    exact same ▸ h.found k hk
  · rw [Line.standing, Line.standing, Line.flightReserved_of_none idle, Line.flightReserved_of_some (t := t) rfl]
    show 0 + (x.queueReserved + 0 + x.scanReserved) = 0 + (y.queueReserved + t.kind.reserved + y.scanReserved)
    omega

section
variable {s : State} {l : LineId} (hi : (s.line l).state = .idle)
include hi

theorem State.startOnNode_balances {i : Index} {n : Node} {kind : TransactionKind} {op : Operation} {allowed : Nat} {leave : Line → Line}
    (ht : ∀ t : Transaction, t.kind = kind → t.operation = op → (s.line l).Accounted → t.Sized)
    (hd : ∀ e ∈ (leave (s.line l)).demandQueue, e ∈ (s.line l).demandQueue)
    (hj : (leave (s.line l)).scan = (s.line l).scan)
    (hr : (s.line l).queueReserved = (leave (s.line l)).queueReserved + kind.reserved) :
    s.Balances (s.startOnNode l i n kind op allowed leave) := by
  unfold State.startOnNode
  refine (s.setNode_balances i _).trans (State.updLine_balances ?_)
  rw [State.line_setNode]
  refine .startAttempt hi (ht _ rfl rfl) hd (fun j e => ⟨j, hj ▸ e, rfl⟩) ?_
  simp only [Line.scanReserved, hj]
  omega

theorem State.startDemand_balances {e : DemandEntry} {rest : List DemandEntry} (hq : (s.line l).demandQueue = e :: rest) :
    s.Balances (s.startDemand l e rest) := by
  have first (h : (s.line l).Accounted) : e.Sized := h.entries e (by simp [hq])
  have leaves (y : Line) (hy : y.demandQueue = rest) : (s.line l).queueReserved = y.queueReserved + e.reserved := by
    simp only [Line.queueReserved, hq, hy, List.map_cons, List.sum_cons]
    omega
  have remains (d : DemandEntry) (hd : d ∈ rest) : d ∈ (s.line l).demandQueue := by simp [hq, hd]
  unfold State.startDemand
  dsimp only
  split
  · rename_i hn
    refine State.updLine_balances (.startAttempt hi (fun h => ?_) remains (fun j e => ⟨j, e, rfl⟩) ?_)
    · obtain ⟨reserved, admitted⟩ := first h
      exact ⟨hn ▸ reserved, admitted⟩
    · exact congrArg (· + (s.line l).scanReserved) (leaves { s.line l with demandQueue := rest } rfl)
  · rename_i i hn
    split
    · exact .refl s
    · refine State.startOnNode_balances hi ?_ remains rfl ?_
      · rintro ⟨⟩ rfl rfl h
        obtain ⟨reserved, admitted⟩ := first h
        exact ⟨hn ▸ reserved, admitted⟩
      · exact leaves _ rfl

/-- A due node starts its poll, whose descriptor is in range, or its recovery probe (R1, R26). -/
theorem State.startDue_balances (hc : s.ConfigsInRange) (e : DueEntry) (rest : List DueEntry) : s.Balances (s.startDue l e rest) := by
  unfold State.startDue
  dsimp only
  split
  · exact .refl s
  · rename_i n hn
    split
    · refine State.startOnNode_balances hi ?_ (fun _ => id) rfl rfl
      rintro ⟨⟩ rfl rfl -
      trivial
    · split
      · exact .refl s
      · rename_i d hd
        refine State.startOnNode_balances hi ?_ (fun _ => id) rfl rfl
        rintro ⟨⟩ rfl rfl -
        have inRange := hc _ n hn
        simp only [NodeConfig.inRange, hd, Option.all_some, PollDescriptor.inRange, Bool.and_eq_true] at inRange
        obtain ⟨⟨⟨⟨⟨-, count⟩, -⟩, -⟩, -⟩, -⟩ := inRange
        exact ⟨d.start, d.count, rfl, (inRange_eq_true_iff.mp count).2⟩

theorem State.startScanProbe_balances {j : ScanJob} (hj : (s.line l).scan = some j) : s.Balances (s.startScanProbe l j) := by
  unfold State.startScanProbe
  extract_lets next
  split
  · exact (State.setScan_balances (k := { j with next := next }) hj id).trans (State.endScan_balances _ l _)
  · refine State.updLine_balances (.startAttempt hi (fun _ => trivial) (fun _ => id) ?_ ?_)
    · rintro k ⟨⟩
      exact ⟨j, hj, rfl⟩
    · simp [Line.scanReserved, Line.queueReserved, hj, TransactionKind.reserved]

end

theorem State.askArbiter_balances {s : State} (hc : s.ConfigsInRange) (l : LineId) : s.Balances (s.askArbiter l) := by
  unfold State.askArbiter State.choose
  split
  · rename_i hi
    split
    · exact State.startDemand_balances hi ‹_›
    · split
      · exact State.startDue_balances hi hc _ _
      · exact State.startDemand_balances hi ‹_›
    · exact State.startDue_balances hi hc _ _
    · exact State.startScanProbe_balances hi ‹_›
    · exact .refl s
  · exact .refl s

theorem State.makeDueNow_balances {s : State} (hc : s.ConfigsInRange) (l : LineId) (i : Index) : s.Balances (s.makeDueNow l i) :=
  (s.makeDue_balances l i).trans (State.askArbiter_balances (hc.kept (.updLine _ _ _)) l)

theorem State.timerExpires_balances {s : State} (hc : s.ConfigsInRange) (l : LineId) (i : Index) (kind : DueKind) (due : Word) :
    s.Balances (s.timerExpires l i kind due) := by
  refine State.Balances.trans (State.updLine_balances (.of_same ?_ ?_ ?_ ?_)) (State.askArbiter_balances (hc.kept (.updLine _ _ _)) l) <;>
    cases kind <;> rfl

/-! ## The end of an attempt and of a transaction -/

theorem State.countFlight_balances (s : State) (k : TransactionKind) (o : FieldOutcome) {a : Nat} : s.Balances (s.countFlight k o) a a := by
  unfold State.countFlight
  split
  · rename_i i _
    rcases s.countAttempt_cases i o with h | ⟨n, c, -, -, h⟩ <;> rw [h]
    · exact .refl s a
    · exact s.setNode_balances i _
  · exact .refl s a

/-- A record that is kept for a retry has the size of the one it replaces. -/
theorem Line.Moves.retry {x y : Line} {t u : Transaction} (ht : x.transaction = some t) (hu : y.transaction = some u)
    (hk : u.kind = t.kind) (ho : u.operation = t.operation) (hb : y.state.busy = true) (hd : y.demandQueue = x.demandQueue)
    (hj : y.scan = x.scan) : x.Moves y := by
  refine .of_record (.inl hb) hd hj (fun h v hv => ?_) ?_
  · cases hu.symm.trans hv
    have sized := h t ht
    unfold Transaction.Sized at sized ⊢
    rw [hk, ho]
    exact sized
  · rw [Line.flightReserved_of_some ht, Line.flightReserved_of_some hu, hk]

/-- A line gives its record up, and with it the reservation that the record keeps. -/
theorem Line.Moves.giveUp {x y : Line} {t : Transaction} (ht : x.transaction = some t) (hy : y.transaction = none)
    (hd : y.demandQueue = x.demandQueue) (hj : y.scan = x.scan) : x.Moves y 0 t.kind.reserved :=
  .of_record (.inr hy) hd hj (fun _ u hu => by rw [hy] at hu; cases hu) (by
    rw [Line.flightReserved_of_some ht, Line.flightReserved_of_none hy, Nat.zero_add, Nat.add_zero])

theorem State.endAttempt_balances (s : State) (l : LineId) {o : FieldOutcome} (kind : GuardKind)
    (ho : ∀ t, (s.line l).transaction = some t → o.Fits t.operation) : s.Balances (s.endAttempt l o kind) := by
  cases ht : (s.line l).transaction with
  | none =>
    unfold State.endAttempt
    rw [ht]
    exact .refl s
  | some t =>
    rw [State.endAttempt_of_some ht]
    split
    · rename_i hr
      exact State.Balances.trans (State.updLine_balances (.retry (u := { t with last := some o }) ht (if_pos hr) rfl rfl rfl rfl rfl))
        (State.countFlight_balances _ _ o)
    · rename_i hr
      intro owed h
      have ended : s.Balances (s.updLine l fun x => x.endsAttempt t o kind) 0 t.kind.reserved :=
        State.updLine_balances (.giveUp ht (if_neg hr) rfl rfl)
      exact ((ended.trans (State.countFlight_balances _ _ o)).trans
        (State.deliver_balances _ l ((h.lines l).flight t ht) (ho t ht))) owed h

/-- A line that leaves service loses its record, and the outcome is delivered (R41). -/
theorem State.leaveTransaction_balances (s : State) (l : LineId) {f : Line → Line} (hf : (s.line l).SameWork (f (s.line l)))
    {o : FieldOutcome} (ho : o.data = []) : s.Balances ((s.updLine l f).endTransaction l o) := by
  have line : ((s.updLine l f).line l).transaction = (s.line l).transaction := by rw [State.line_updLine_same, hf.transaction]
  unfold State.endTransaction
  rw [line]
  cases ht : (s.line l).transaction with
  | none => exact State.updLine_balances (.of_work (fun _ _ => hf.transaction.trans ht) hf.transaction hf.demandQueue hf.scan)
  | some t =>
    show s.Balances (((s.updLine l f).updLine l Line.vacate).deliver l t o)
    rw [State.updLine_updLine]
    intro owed h
    have vacated : s.Balances (s.updLine l fun x => (f x).vacate) 0 t.kind.reserved :=
      State.updLine_balances (.giveUp ht rfl hf.demandQueue hf.scan)
    exact (vacated.trans (State.deliver_balances _ l ((h.lines l).flight t ht) (o.fits_of_empty ho _))) owed h

/-- A line leaves service: its transaction, its demand queue and its scan job end with their replies (R62, R65). -/
theorem State.leave_balances (s : State) (l : LineId) {f : Line → Line} (hf : (s.line l).SameWork (f (s.line l)))
    {o : FieldOutcome} (ho : o.data = []) {g : Line → Line} (hg : ∀ x : Line, x.Moves (g x)) : s.Balances (s.leave l f o g) := by
  have lost := ((s.leaveTransaction_balances l hf ho).trans (State.flush_balances _ l o.status)).trans (State.endScan_balances _ l o.status)
  exact (lost.trans (State.updLine_balances (hg _))).trans (State.mark_balances _ _)

theorem State.enterFault_balances (s : State) (l : LineId) (cause : FaultCause) : s.Balances (s.enterFault l cause) := by
  rw [State.enterFault_eq]
  exact s.leave_balances l (Line.leaveService_sameWork _ _) rfl fun _ => .of_same rfl rfl rfl rfl

theorem State.enterOff_balances (s : State) (l : LineId) : s.Balances (s.enterOff l) := by
  rw [State.enterOff_eq]
  exact s.leave_balances l (Line.switchedOff_sameWork _) rfl fun _ => .of_same rfl rfl rfl rfl

/-! ## Sending and receiving -/

/-- The end of an attempt without content fits every operation. -/
theorem State.endAttempt_balances_of_empty (s : State) (l : LineId) {o : FieldOutcome} (kind : GuardKind) (ho : o.data = []) :
    s.Balances (s.endAttempt l o kind) := s.endAttempt_balances l kind fun _ _ => o.fits_of_empty ho _

theorem State.echoFails_balances (s : State) (l : LineId) : s.Balances (s.echoFails l) := by
  unfold State.echoFails
  extract_lets counted
  have count : s.Balances counted := State.updLine_balances (.of_same rfl rfl rfl rfl)
  refine count.trans ?_
  split
  · exact counted.enterFault_balances l _
  · exact counted.endAttempt_balances_of_empty l _ rfl

/-- A line enters another state of its attempt. -/
theorem State.updLine_balances_of_attempt {s : State} {l : LineId} {f : Line → Line} (hb : (f (s.line l)).state.busy = true)
    (ht : (f (s.line l)).transaction = (s.line l).transaction) (hd : (f (s.line l)).demandQueue = (s.line l).demandQueue)
    (hj : (f (s.line l)).scan = (s.line l).scan) : s.Balances (s.updLine l f) :=
  State.updLine_balances (.of_work (.of_record (.inr (.inl hb))) ht hd hj)

theorem State.sendingEnds_balances (s : State) (l : LineId) : s.Balances (s.sendingEnds l) := by
  obtain h | ⟨t, -, -, -, ⟨-, h⟩ | ⟨-, -, h⟩ | ⟨-, -, h⟩⟩ := s.sendingEnds_cases l <;> rw [h]
  · exact .refl s
  · exact s.endAttempt_balances_of_empty l _ rfl
  · exact s.endAttempt_balances_of_empty l _ rfl
  · exact State.updLine_balances_of_attempt rfl rfl rfl rfl

theorem State.takeEcho_balances (s : State) (l : LineId) (begun : Nat) (data : Byte) (mark good : Bool) :
    s.Balances (s.takeEcho l begun data mark good) := by
  unfold State.takeEcho
  dsimp only
  split
  · exact State.Balances.trans (State.updLine_balances (.of_same rfl rfl rfl rfl)) (State.sendingEnds_balances _ l)
  · exact s.echoFails_balances l

theorem State.countLine_balances (s : State) (l : LineId) (f : LineCounters → LineCounters) : s.Balances (s.countLine l f) :=
  State.updLine_balances (.of_same rfl rfl rfl rfl)

theorem State.setOpenFrame_balances (s : State) (l : LineId) (frame : Option (List Byte)) : s.Balances (s.setOpenFrame l frame) :=
  State.updLine_balances (.of_same rfl rfl rfl rfl)

theorem State.openStray_balances (s : State) (l : LineId) (data : Byte) : s.Balances (s.openStray l data) :=
  (s.countLine_balances l _).trans (State.setOpenFrame_balances _ l _)

theorem State.takeOutside_balances (s : State) (l : LineId) (data : Byte) (mark good : Bool) :
    s.Balances (s.takeOutside l data mark good) := by
  unfold State.takeOutside
  split
  · split
    · exact s.openStray_balances l data
    · split
      · exact s.countLine_balances l _
      · split <;> exact s.setOpenFrame_balances l _
  · exact (s.countLine_balances l _).trans (State.setOpenFrame_balances _ l _)

theorem State.takeWaiting_balances (s : State) (l : LineId) (t : Transaction) (data : Byte) (mark good : Bool) :
    s.Balances (s.takeWaiting l t data mark good) := by
  unfold State.takeWaiting
  split
  · exact State.updLine_balances_of_attempt rfl rfl rfl rfl
  · exact s.takeOutside_balances l data mark good

theorem State.discardCandidate_balances (s : State) (l : LineId) : s.Balances (s.discardCandidate l) := by
  unfold State.discardCandidate
  extract_lets closed
  have close : s.Balances closed := (s.countLine_balances l _).trans (State.setOpenFrame_balances _ l none)
  refine close.trans ?_
  split
  · exact State.endAttempt_balances_of_empty _ l _ rfl
  · exact State.updLine_balances_of_attempt rfl rfl rfl rfl

theorem State.breakCandidate_balances (s : State) (l : LineId) : s.Balances (s.breakCandidate l) :=
  (s.setOpenFrame_balances l none).trans (State.endAttempt_balances_of_empty _ l _ rfl)

/-- A response that the checks of R35 accept carries what its operation asks for. -/
theorem State.takeReceiving_balances {s : State} {l : LineId} {t : Transaction} (ht : (s.line l).transaction = some t) (data : Byte)
    (mark good : Bool) : s.Balances (s.takeReceiving l t data mark good) := by
  unfold State.takeReceiving
  split
  · split
    · exact (s.breakCandidate_balances l).trans (State.openStray_balances _ l data)
    · split
      · exact s.setOpenFrame_balances l _
      · exact s.breakCandidate_balances l
      · split
        · exact s.discardCandidate_balances l
        · rename_i o judged
          refine (s.setOpenFrame_balances l none).trans (State.endAttempt_balances _ l _ fun u hu => ?_)
          rw [State.setOpenFrame, State.line_updLine_same] at hu
          cases ht.symm.trans hu
          exact judge_fits judged
  · exact (s.countLine_balances l _).trans (State.breakCandidate_balances _ l)

theorem State.takeCharacter_balances (s : State) (l : LineId) (data : Byte) (mark good : Bool) :
    s.Balances (s.takeCharacter l data mark good) := by
  unfold State.takeCharacter
  extract_lets x finished
  refine State.Balances.trans (t := finished) (State.updLine_balances (.of_same rfl rfl rfl rfl)) ?_
  split
  · exact .refl _
  · exact .refl _
  · exact .refl _
  · exact finished.takeEcho_balances l _ data mark good
  · exact finished.takeEcho_balances l _ data mark good
  · exact .refl _
  · exact finished.takeWaiting_balances l _ data mark good
  · rename_i ht _ _
    refine State.takeReceiving_balances ?_ data mark good
    simp only [finished, State.line_updLine_same]
    assumption
  · exact finished.takeOutside_balances l data mark good

end Sys2Proof.Machine
/-! SUPPORT. The requests and the store jobs keep the accounts of law L1: the reservation of a request is settled by its reply, or handed to
the work that it starts (R121, R154, R155). -/

namespace Sys2Proof.Machine

/-- An operation that settles nothing leaves other reservations owed. -/
theorem State.Balances.owing {s t : State} (h : s.Balances t) (a : Nat) : s.Balances t a a := by simpa using h.frame a

theorem State.ConfigsInRange.of_nodes {s t : State} (h : s.ConfigsInRange) (e : t.nodes = s.nodes) : t.ConfigsInRange :=
  h.kept (.of_nodes e)

/-! ## Reservations of requests -/

theorem six_le_demandReservation (body : List Byte) : 6 ≤ demandReservation body := by
  unfold demandReservation
  split
  · decide
  · split
    · split <;> omega
    · decide
  · split
    · split <;> decide
    · decide
  · decide

theorem six_le_broadcastReservation (body : List Byte) : 6 ≤ broadcastReservation body := by
  unfold broadcastReservation
  split
  · split <;> decide
  · decide

/-- Every request reserves at least the 6 bytes of BAD-BODY (R155, R156). -/
theorem Request.six_le_reservation (rq : Request) : 6 ≤ rq.reservation := by
  cases hk : requestKindOf rq.kind with
  | none => rw [reservation_of_unknown hk]; decide
  | some k =>
    rw [reservation_of_kind hk]
    cases k with
    | demand => exact six_le_demandReservation rq.body
    | broadcast => exact six_le_broadcastReservation rq.body
    | _ => exact Nat.le_of_ble_eq_true rfl

/-- A reply without data fits every reservation (R155). -/
theorem State.refuse_balances (s : State) {rq : Request} (status : Status) : s.Balances (s.answer rq status []) rq.reservation :=
  s.answer_balances status rq.six_le_reservation

/-- A reply with one byte of data fits a reservation of 7 bytes or more. -/
theorem State.answerByte_balances (s : State) {rq : Request} (status : Status) (b : Byte) (h : 7 ≤ rq.reservation) :
    s.Balances (s.answer rq status [b]) rq.reservation := s.answer_balances status h

/-! ## The line requests -/

section
variable (s : State) {rq : Request} (hr : rq.reservation = 7) (l : LineId)
include hr

theorem State.lineSet_balances (settings : LineSettings) : s.Balances (s.lineSet rq l settings) rq.reservation := by
  unfold State.lineSet
  extract_lets x set_ reported
  have hset : s.Balances set_ := State.setLine_balances (.of_same rfl rfl rfl rfl)
  have hreported : set_.Balances reported := by
    simp only [reported]
    split
    · exact .refl set_
    · exact set_.reportChange_balances
  split
  · exact ((hset.trans hreported).owing _).trans (State.answerByte_balances _ _ _ hr.ge)
  · exact s.answerByte_balances _ _ hr.ge

theorem State.lineEnable_balances (hc : s.ConfigsInRange) : s.Balances (s.lineEnable rq l) rq.reservation := by
  unfold State.lineEnable
  extract_lets up marked reported answered
  split
  · rename_i hoff
    have hup : s.Balances up :=
      State.updLine_balances (.of_work (fun h _ => h (by rw [hoff]; rfl)) rfl rfl rfl)
    have hreported : up.Balances reported := (State.mark_balances _ _).trans marked.reportChange_balances
    have configs : answered.ConfigsInRange := hc.kept ((((State.ConfigsKept.updLine s l _).trans
      (State.mark_queueOnly _ _).configsKept).trans (.of_nodes rfl)).trans (State.answer_queueOnly _ _ _ _).configsKept)
    exact (((hup.trans hreported).owing _).trans (State.answerByte_balances _ _ _ hr.ge)).trans (State.askArbiter_balances configs l)
  · exact s.answerByte_balances _ _ hr.ge

theorem State.lineDisable_balances : s.Balances (s.lineDisable rq l) rq.reservation := by
  unfold State.lineDisable
  split
  · exact s.answerByte_balances _ _ hr.ge
  · exact (((s.enterOff_balances l).trans (State.reportChange_balances _)).owing _).trans (State.answerByte_balances _ _ _ hr.ge)

end

theorem State.lineInfo_balances (s : State) {rq : Request} (hr : rq.reservation = 27) (l : LineId) (clear : Bool) :
    s.Balances (s.lineInfo rq l clear) rq.reservation := by
  rw [State.lineInfo_eq]
  refine State.Balances.trans ((State.setLine_balances ?_).owing _) (State.answer_balances _ _ hr.ge)
  exact .of_same rfl rfl rfl rfl

/-! ## The node requests -/

section
variable (s : State) {rq : Request} (hr : rq.reservation = 7)
include hr

theorem State.nodeAdd_balances {c : NodeConfig} (hconfig : c.inRange = true) (hc : s.ConfigsInRange) (startDisabled : Bool) :
    s.Balances (s.nodeAdd rq c startDisabled) rq.reservation := by
  cases held : s.addressHeld c.line c.address with
  | true => rw [State.nodeAdd_of_held held]; exact s.refuse_balances _
  | false =>
    cases hi : s.freeIndex with
    | none => rw [State.nodeAdd_of_full held hi]; exact s.refuse_balances _
    | some i =>
      have added : s.Balances (s.added rq c startDisabled i) rq.reservation := by
        refine State.Balances.trans (((s.setNode_balances i _).trans ((State.setSnapshot_balances _ i ?_).trans
          (State.reportChange_balances _))).owing _) (State.answerByte_balances _ _ _ hr.ge)
        rintro - _ _ ⟨⟩ ⟨⟩
      have configs : (s.added rq c startDisabled i).ConfigsInRange := fun j n hn => by
        rw [State.added_node, ← State.node_setNode] at hn
        exact hc.setNode i (m := c.added startDisabled) hconfig j n hn
      rw [State.nodeAdd_of_free held hi]
      split
      · exact added.trans (State.makeDueNow_balances configs _ i)
      · exact added

theorem State.nodeSet_balances (i : Index) (c : NodeConfig) : s.Balances (s.nodeSet rq i c) rq.reservation := by
  have answered (u : State) (status : Status) : u.Balances (u.answer rq status [byteOf i]) rq.reservation :=
    u.answerByte_balances status _ hr.ge
  have reported (u : State) (p : Prop) [Decidable p] : u.Balances (if p then u else u.reportChange) := by
    split
    · exact .refl u
    · exact u.reportChange_balances
  unfold State.nodeSet
  split
  · exact answered s _
  · rename_i n _
    split
    · exact answered s _
    · split
      · exact answered s _
      · split
        · exact answered s _
        · exact (((s.setNode_balances i _).trans (reported _ (c = n.config))).owing _).trans (answered _ _)

theorem State.nodeRemove_balances (i : Index) : s.Balances (s.nodeRemove rq i) rq.reservation := by
  cases hlive : s.liveNode i with
  | none => rw [State.nodeRemove_of_none hlive]; exact s.answerByte_balances _ _ hr.ge
  | some n =>
    rw [State.nodeRemove_of_live hlive]
    have withdrawn := (s.withhold_balances n.config.line i n.remove .nodeRemoved).trans (State.withdraw_balances _ i)
    have reported := (withdrawn.trans (State.setSnapshot_balances _ i (x := none) fun _ => nofun)).trans (State.reportChange_balances _)
    exact ((reported.owing _).trans (State.answerByte_balances _ _ _ hr.ge)).trans (State.setNode_balances _ i _)

theorem State.nodeEnable_balances (hc : s.ConfigsInRange) (i : Index) : s.Balances (s.nodeEnable rq i) rq.reservation := by
  cases hlive : s.liveNode i with
  | none => rw [State.nodeEnable_of_none hlive]; exact s.answerByte_balances _ _ hr.ge
  | some n =>
    by_cases hs : n.state = .disabled
    · rw [State.nodeEnable_of_disabled hlive hs]
      extract_lets enabled
      have henabled : s.Balances enabled rq.reservation := (((s.setNode_balances i _).trans ((State.mark_balances _ _).trans
        (State.reportChange_balances _))).owing _).trans (State.answerByte_balances _ _ _ hr.ge)
      have hn := ((s.liveNode_iff i n).mp hlive).1
      have configs : enabled.ConfigsInRange := State.ConfigsInRange.kept (hc.setNode i (m := n.enabled) (hc i n hn))
        (((State.mark_queueOnly _ _).configsKept.trans (.of_nodes rfl)).trans (State.answer_queueOnly _ _ _ _).configsKept)
      split
      · exact henabled.trans (State.makeDueNow_balances configs _ i)
      · exact henabled
    · rw [State.nodeEnable_of_active hlive hs]; exact s.answerByte_balances _ _ hr.ge

theorem State.nodeDisable_balances (i : Index) : s.Balances (s.nodeDisable rq i) rq.reservation := by
  cases hlive : s.liveNode i with
  | none => rw [State.nodeDisable_of_none hlive]; exact s.answerByte_balances _ _ hr.ge
  | some n =>
    by_cases hs : n.state = .disabled
    · rw [State.nodeDisable_of_disabled hlive hs]; exact s.answerByte_balances _ _ hr.ge
    · rw [State.nodeDisable_eq s rq hlive hs]
      exact ((((s.withhold_balances _ i _ _).trans (State.mark_balances _ _)).trans (State.reportChange_balances _)).owing _).trans
        (State.answerByte_balances _ _ _ hr.ge)

end

theorem State.nodeInfo_balances (s : State) {rq : Request} (hr : rq.reservation = 32) (i : Index) (clear : Bool) :
    s.Balances (s.nodeInfo rq i clear) rq.reservation := by
  unfold State.nodeInfo
  split
  · exact s.answerByte_balances _ _ (by omega)
  · rename_i n hlive
    have length : 6 + (nodeInfoData i n).length ≤ rq.reservation := by
      simp [nodeInfoData, NodeState.bytes_length ((s.liveNode_iff i n).mp hlive).2, hr]
    dsimp only
    split
    · exact (s.setNode_balances i _).trans (State.answer_balances _ _ length)
    · exact s.answer_balances _ length

/-- A stored payload of 48 bytes at most makes a report that fits (R91, R95). -/
theorem snapshotData_length_le (i : Index) (n : Node) (now : Word) {x : Snapshot}
    (h : ∀ r, x.record = some r → r.payload.length ≤ 48) : (snapshotData i n now x).length ≤ 55 := by
  unfold snapshotData
  split
  · simp
  · rename_i r hr
    have payload := h r hr
    simp only [List.length_append, List.length_cons, List.length_nil, halfBytes_length]
    omega

theorem State.readSnapshot_balances (s : State) {rq : Request} (hr : rq.reservation = 61) (i : Index) :
    s.Balances (s.readSnapshot rq i) rq.reservation := by
  unfold State.readSnapshot
  split
  · exact s.answerByte_balances _ _ (by omega)
  · rename_i n _
    intro owed h
    have stored (r : SnapshotRecord) (hx : ((s.snapshot i).getD {}).record = some r) : r.payload.length ≤ 48 := by
      cases hs : s.snapshot i with
      | none => rw [hs] at hx; cases hx
      | some x => rw [hs] at hx; exact h.payloads i x r hs hx
    have length := snapshotData_length_le i n s.partTime stored
    exact s.answer_balances .ok (by omega) owed h

/-! ## Demands -/

/-- A sized entry takes its reservation into the queue (R110, R114, R121). -/
theorem State.acceptDemand_balances {s : State} (hc : s.ConfigsInRange) (l : LineId) {e : DemandEntry} (he : e.Sized) :
    s.Balances (s.acceptDemand l e) e.reserved := by
  have queued : (s.addTag e.tag).Balances
      ((s.addTag e.tag).updLine l fun x => { x with demandQueue := x.demandQueue ++ [e] }) e.reserved := by
    refine State.updLine_balances (.of_queue rfl rfl rfl (fun h d hd => ?_) ?_)
    · obtain hd | hd := List.mem_append.mp hd
      · exact h d hd
      · exact List.mem_singleton.mp hd ▸ he
    · simp [Line.queueReserved, Nat.add_comm]
  exact ((s.addTag_balances e.tag).trans queued).trans
    (State.askArbiter_balances (hc.of_nodes (by simp)) l)

theorem State.demand_balances (s : State) {rq : Request} (hk : requestKindOf rq.kind = some .demand) (hc : s.ConfigsInRange) {i : Index}
    {op : Operation} (hb : demandBody rq.body = some (i, op)) : s.Balances (s.demand rq i op) rq.reservation := by
  have reserves : rq.reservation = op.largestReply := (reservation_of_kind hk).trans (demandReservation_of_body hb)
  have admitted := ((demandBody_eq_some_iff _ _ _).mp hb).1
  have refused (status : Status) : s.Balances (s.answer rq status [byteOf i, op.code]) rq.reservation :=
    s.answer_balances status (reserves ▸ FieldOutcome.Fits.data_le (o := .timeout) nofun admitted)
  unfold State.demand
  dsimp only
  split
  · exact refused _
  · split
    · exact refused _
    · split
      · exact refused _
      · split
        · exact refused _
        · exact State.acceptDemand_balances hc _ ⟨reserves, admitted⟩

theorem State.broadcast_balances (s : State) {rq : Request} (hk : requestKindOf rq.kind = some .broadcast) (hc : s.ConfigsInRange)
    {l : LineId} {op : Operation} (hb : broadcastBody rq.body = some (l, op)) : s.Balances (s.broadcast rq l op) rq.reservation := by
  have reserves : rq.reservation = 7 := (reservation_of_kind hk).trans (broadcastReservation_of_body hb)
  obtain ⟨start, count, data, rfl, admitted, -⟩ := (broadcastBody_eq_some_iff _ _ _).mp hb
  unfold State.broadcast
  split
  · exact s.answerByte_balances _ _ reserves.ge
  · split
    · exact s.answerByte_balances _ _ reserves.ge
    · exact State.acceptDemand_balances hc _ ⟨reserves, admitted⟩

/-- The entry that CANCEL finds leaves the queue with its reservation (R119). -/
theorem State.cancelEntry_balances {s : State} {l : LineId} {target : Byte} {e : DemandEntry} (h : (s.line l).queued target = some e) :
    s.Balances (s.cancelEntry l e) := by
  have tag_e : e.tag = target := by simpa using List.find?_some h
  obtain ⟨-, before, after, hq, hb⟩ := List.find?_eq_some_iff_append.mp h
  have erased : (s.line l).demandQueue.eraseP (fun q => decide (q.tag = e.tag)) = before ++ after := by
    rw [hq, List.eraseP_append_right _ fun q hm => ?_, List.eraseP_cons_of_pos (by simp)]
    simpa [tag_e] using hb q hm
  have removed : s.Balances (s.updLine l fun x => { x with demandQueue := x.demandQueue.eraseP fun q => q.tag = e.tag }) 0 e.reserved := by
    refine State.updLine_balances (.of_queue rfl rfl rfl (fun h d hd => h d (List.mem_of_mem_eraseP hd)) ?_)
    simp only [Line.queueReserved, erased]
    rw [hq]
    simp only [List.map_append, List.map_cons, List.sum_append, List.sum_cons]
    omega
  intro owed hs
  have sized : e.Sized := (hs.lines l).entries e (List.mem_of_find?_eq_some h)
  exact (removed.trans ((State.replyEntry_settles _ l .cancelled e).balances (sized.fits l .cancelled))) owed hs

theorem State.cancel_balances (s : State) {rq : Request} (hr : rq.reservation = 7) (target : Byte) :
    s.Balances (s.cancel rq target) rq.reservation := by
  unfold State.cancel
  split
  · rename_i h
    exact ((State.cancelEntry_balances (l := .a) h).owing _).trans (State.answerByte_balances _ _ _ hr.ge)
  · rename_i h
    exact ((State.cancelEntry_balances (l := .b) h).owing _).trans (State.answerByte_balances _ _ _ hr.ge)
  · split <;> exact s.answerByte_balances _ _ hr.ge

/-! ## Scan jobs -/

theorem State.scanStart_balances (s : State) {rq : Request} (hr : rq.reservation = 57) (hc : s.ConfigsInRange) (l : LineId)
    (first last timeout : Byte) : s.Balances (s.scanStart rq l first last timeout) rq.reservation := by
  have refused (status : Status) : s.Balances (s.answer rq status [lineCode l]) rq.reservation :=
    s.answerByte_balances status _ (by omega)
  unfold State.scanStart
  split
  · exact refused _
  · split
    · exact refused _
    · split
      · exact refused _
      · split
        · exact refused _
        · rename_i idle
          have created : (s.addTag rq.tag).Balances ((s.addTag rq.tag).updLine l fun x =>
              { x with scan := some (ScanJob.create rq.tag first last timeout) }) rq.reservation := by
            refine State.updLine_balances (.of_scan rfl rfl rfl (fun _ j e => ?_) ?_)
            · cases e; exact Nat.zero_lt_succ 15
            · have none_ : (s.line l).scan = none := by simpa using idle
              simp [Line.scanReserved, none_, hr, Config.scanReservation]
          exact ((s.addTag_balances rq.tag).trans created).trans
            (State.askArbiter_balances (hc.of_nodes (by simp)) l)

theorem State.scanAbort_balances (s : State) {rq : Request} (hr : rq.reservation = 7) (l : LineId) :
    s.Balances (s.scanAbort rq l) rq.reservation := by
  unfold State.scanAbort
  split
  · exact s.answerByte_balances _ _ hr.ge
  · rename_i j hj
    split
    · exact ((s.endScan_balances l _).owing _).trans (State.answerByte_balances _ _ _ hr.ge)
    · exact ((State.setScan_balances (k := { j with abort := true }) hj id).owing _).trans (State.answerByte_balances _ _ _ hr.ge)

/-! ## Store jobs -/

/-- A store job ends with its reply; it may end as it is accepted, while its reservation is still owed a place (R137, R139, R140). -/
theorem State.endJob_balances {s : State} {a reservation : Nat} (h : a + s.jobReserved = reservation) (tag : Byte) {r : Reply}
    (hr : (Message.reply r).length ≤ reservation) :
    s.Balances { (s.dropTag tag).queueReply reservation r with storeJob := none } a := by
  have gone : s.Balances { s.dropTag tag with storeJob := none } a reservation := State.setJob_balances rfl rfl rfl rfl rfl h
  obtain ⟨posts, -, reserved, -, space⟩ := (s.dropTag tag).queueReply_posts reservation r
  exact gone.trans ((posts.setJob none).core.balances reserved (space hr))

theorem State.endSave_balances {s : State} (h : s.jobReserved = 10) (tag : Byte) (generation : Word) (good : Bool) :
    s.Balances (s.endSave tag generation good) := by
  unfold State.endSave
  extract_lets u v
  have first : s.Balances u ∧ u.jobReserved = 10 := by
    simp only [u]
    split
    · exact ⟨.of_fields rfl rfl rfl rfl rfl rfl, h⟩
    · exact ⟨.refl s, h⟩
  have ended : u.Balances { v with storeJob := none } := State.endJob_balances ((Nat.zero_add _).trans first.2) tag (le_refl 10)
  exact (first.1.trans ended).trans (.of_fields rfl rfl rfl rfl rfl rfl)

theorem State.startSave_balances {s : State} (hj : s.storeJob = none) (tag : Byte) : s.Balances (s.startSave tag) 10 := by
  unfold State.startSave
  extract_lets newest target job tagged u slot
  have started : s.Balances u 10 := State.setJob_balances rfl rfl rfl rfl rfl (by rw [State.jobReserved, hj]; rfl)
  refine started.trans ?_
  split
  · exact State.endSave_balances rfl tag _ _
  · exact (State.setStoreSlot_balances _ _ _).trans (.of_fields rfl rfl rfl rfl rfl rfl)

theorem State.endErase_balances {s : State} {a : Nat} (h : a + s.jobReserved = 6) (tag : Byte) (status : Status) :
    s.Balances (s.endErase tag status) a := State.endJob_balances h tag (le_refl 6)

theorem State.eraseNext_balances {s : State} {a : Nat} (h : a + s.jobReserved = 6) (tag : Byte) (slots : List SlotId) :
    s.Balances (s.eraseNext tag slots) a := by
  cases slots with
  | nil => exact State.endErase_balances h tag .ok
  | cons slot rest =>
    refine (s.setStoreSlot_balances slot _).trans (State.setJob_balances rfl rfl rfl rfl rfl ?_)
    rw [State.jobReserved, State.setStoreSlot_storeJob, ← State.jobReserved, h]
    rfl

theorem State.storeSave_balances (s : State) {rq : Request} (hr : rq.reservation = 10) :
    s.Balances (s.storeSave rq) rq.reservation := by
  obtain ⟨status, e⟩ | ⟨-, idle, e⟩ := s.storeSave_cases rq <;> rw [e]
  · exact s.refuse_balances _
  · exact hr ▸ State.startSave_balances idle rq.tag

theorem State.storeErase_balances (s : State) {rq : Request} (hr : rq.reservation = 6) :
    s.Balances (s.storeErase rq) rq.reservation := by
  unfold State.storeErase
  split
  · exact s.refuse_balances _
  · split
    · exact s.refuse_balances _
    · rename_i idle
      have none_ : s.storeJob = none := by simpa using idle
      refine (s.addTag_balances rq.tag).trans (State.eraseNext_balances ?_ _ _)
      show rq.reservation + s.jobReserved = 6
      rw [State.jobReserved, none_, hr]
      rfl

end Sys2Proof.Machine
/-! SUPPORT. Every command but those of a reset keeps the accounts of law L1, and the part comes out of a reset with nothing to account for
(R143, R153, R161). -/

namespace Sys2Proof.Machine

/-! ## The shapes of rows -/

/-- A row takes a request of its kind, whose reservation its owner settles (R154). -/
theorem State.take_balances {s : State} (hc : s.ConfigsInRange) (k : Option RequestKind) {owner : Request → State → State}
    (h : ∀ (rq : Request) (u : State), requestKindOf rq.kind = k → u.ConfigsInRange → u.Balances (owner rq u) rq.reservation) :
    s.Balances (s.take k owner) := by
  obtain e | ⟨id, rq, ⟨-, -, hk, fits⟩, e⟩ := s.take_cases k owner <;> rw [e]
  · exact .refl s
  · exact (State.accept_balances fits).trans (h rq _ hk (hc.of_nodes (by simp)))

theorem State.awake_balances {s : State} {f : State → State} (h : s.Balances (f s)) : s.Balances (s.awake f) := by
  obtain e | ⟨-, e⟩ := s.awake_cases f <;> rw [e]
  · exact .refl s
  · exact h

theorem State.onNode_balances {s : State} (index : Nat) {f : Index → Node → State} (h : ∀ i n, s.Balances (f i n)) :
    s.Balances (s.onNode index f) := by
  obtain e | ⟨i, n, -, e⟩ := s.onNode_cases index f <;> rw [e]
  · exact .refl s
  · exact h i n

/-- An event of a SAVE reaches a job that reserves 10 bytes (R138, R164). -/
theorem State.inPhase_balances {s : State} (number : Nat) (phases : List SavePhase) {f : Byte → Image → SlotId → Word → State}
    (h : ∀ tag image target generation, s.jobReserved = 10 → s.Balances (f tag image target generation)) :
    s.Balances (s.inPhase number phases f) := by
  obtain e | ⟨tag, p, image, target, generation, hj, -, -, e⟩ := s.inPhase_cases number phases f <;> rw [e]
  · exact .refl s
  · exact h tag image target generation (by rw [State.jobReserved, hj]; rfl)

/-- An event of an ERASE reaches a job that reserves 6 bytes (R140). -/
theorem State.inErase_balances {s : State} (number : Nat) {f : Byte → SlotId → List SlotId → Bool → State}
    (h : ∀ tag slot rest held, s.jobReserved = 6 → s.Balances (f tag slot rest held)) : s.Balances (s.inErase number f) := by
  obtain e | ⟨tag, slot, rest, held, hj, -, e⟩ := s.inErase_cases number f <;> rw [e]
  · exact .refl s
  · exact h tag slot rest held (by rw [State.jobReserved, hj]; rfl)

/-! ## Line events -/

section
variable {l : LineId} {s t : State}

theorem execResponseTimerExpiry_balances (h : execResponseTimerExpiry l s = .next t) : s.Balances t := by
  cases h
  refine State.awake_balances ?_
  split
  · exact s.endAttempt_balances_of_empty l _ rfl
  · exact State.updLine_balances (.of_same rfl rfl rfl rfl)
  · exact State.updLine_balances (.of_same rfl rfl rfl rfl)
  · exact .refl s

theorem execFrameGapExpiry_balances (h : execFrameGapExpiry l s = .next t) : s.Balances t := by
  cases h
  refine State.awake_balances ?_
  split
  · split
    · exact s.breakCandidate_balances l
    · exact s.setOpenFrame_balances l none
  · exact .refl s

theorem execEchoDeadlineExpiry_balances (h : execEchoDeadlineExpiry l s = .next t) : s.Balances t := by
  cases h
  refine State.awake_balances ?_
  split
  · exact s.echoFails_balances l
  · exact .refl s

theorem execStuckSpaceExpiry_balances (h : execStuckSpaceExpiry l s = .next t) : s.Balances t := by
  cases h
  refine State.awake_balances ?_
  split
  · exact s.enterFault_balances l _
  · exact .refl s

theorem execFaultRecovery_balances (hc : s.ConfigsInRange) (h : execFaultRecovery l s = .next t) : s.Balances t := by
  cases h
  refine State.awake_balances ?_
  split
  · rename_i hx
    have idle : s.Balances (s.updLine l fun x => { x with state := .idle, reception := none }) :=
      State.updLine_balances (.of_work (fun h _ => h (by rw [hx.1]; rfl)) rfl rfl rfl)
    exact (idle.trans (State.mark_balances _ _)).trans
      (State.askArbiter_balances (hc.of_nodes (by simp [(State.mark_queueOnly _ _).nodes])) l)
  · exact .refl s

theorem execGuardEnd_balances (hc : s.ConfigsInRange) (h : execGuardEnd l s = .next t) : s.Balances t := by
  cases h
  refine State.awake_balances ?_
  split
  · split
    · rename_i t ht
      exact State.updLine_balances (.retry (u := { t with made := t.made + 1 }) ht rfl rfl rfl rfl rfl rfl)
    · rename_i ht
      have idle : s.Balances (s.updLine l fun x => { x with state := .idle, guardKind := none }) :=
        State.updLine_balances (.of_work (fun _ _ => ht) rfl rfl rfl)
      exact idle.trans (State.askArbiter_balances (hc.of_nodes (by simp)) l)
  · exact .refl s

theorem execStopBitSent_balances (h : execStopBitSent l s = .next t) : s.Balances t := by
  cases h
  refine State.awake_balances ?_
  dsimp only
  split
  · exact (State.updLine_balances (.of_same rfl rfl rfl rfl)).trans (State.sendingEnds_balances _ l)
  · exact .refl s

theorem execReceivePinChange_balances {mark : Bool} (h : execReceivePinChange l mark s = .next t) : s.Balances t := by
  cases h
  split
  · obtain ⟨state, transaction, queue, scan⟩ := (s.line l).pinChanges_work mark
    exact State.updLine_balances (.of_same state transaction queue scan)
  · exact State.updLine_balances (.of_same rfl rfl rfl rfl)

theorem execFieldCharacterReceived_balances {data : Byte} {mark good : Bool}
    (h : execFieldCharacterReceived l data mark good s = .next t) : s.Balances t := by
  cases h
  refine State.awake_balances ?_
  split
  · exact .refl s
  · exact s.takeCharacter_balances l data mark good

end

/-! ## Time events -/

section
variable {index : Nat} {s t : State}

theorem execPollTimerExpiry_balances (hc : s.ConfigsInRange) (h : execPollTimerExpiry index s = .next t) : s.Balances t := by
  cases h
  refine State.awake_balances (State.onNode_balances index fun i n => ?_)
  split
  · exact State.timerExpires_balances hc _ i .poll _
  · exact .refl s

theorem execRecoveryTimerExpiry_balances (hc : s.ConfigsInRange) (h : execRecoveryTimerExpiry index s = .next t) : s.Balances t := by
  cases h
  refine State.awake_balances (State.onNode_balances index fun i n => ?_)
  split
  · exact State.timerExpires_balances hc _ i .recovery _
  · exact .refl s

theorem execDueTimeAdvance_balances (h : execDueTimeAdvance index s = .next t) : s.Balances t := by
  cases h
  exact State.awake_balances (State.onNode_balances index fun i n => State.updLine_balances (.of_same rfl rfl rfl rfl))

/-- A record that ages keeps its payload (R93). -/
theorem execSnapshotAgeOut_balances (h : execSnapshotAgeOut index s = .next t) : s.Balances t := by
  cases h
  refine State.awake_balances (State.onNode_balances index fun i n => ?_)
  split
  · rename_i x hx
    split
    · rename_i r hr
      split
      · refine s.setSnapshot_balances i fun fit _ _ hy hq => ?_
        cases hy
        cases hq
        exact fit i x r hx hr
      · exact .refl s
    · exact .refl s
  · exact .refl s

end

/-! ## Store events -/

section
variable {phase : Nat} {s t : State}

/-- The job enters VERIFY with the reservation it had (R138). -/
theorem execSaveWriteCompletion_balances (h : execSaveWriteCompletion s phase = .next t) : s.Balances t := by
  cases h
  refine State.awake_balances (State.inPhase_balances phase _ fun tag image target generation hj => ?_)
  refine (s.setStoreSlot_balances target _).trans (State.setJob_balances rfl rfl rfl rfl rfl ?_)
  rw [State.jobReserved, State.setStoreSlot_storeJob, ← State.jobReserved, hj]
  rfl

theorem execSaveVerifyReadBack_balances {equal : Bool} (h : execSaveVerifyReadBack equal s phase = .next t) : s.Balances t := by
  cases h
  refine State.awake_balances (State.inPhase_balances phase _ fun tag image target generation hj => ?_)
  split
  · exact State.setJob_balances rfl rfl rfl rfl rfl (by rw [hj]; rfl)
  · exact State.endSave_balances hj tag generation false

theorem execSaveMarkWriteCompletion_balances (h : execSaveMarkWriteCompletion s phase = .next t) : s.Balances t := by
  cases h
  refine State.awake_balances (State.inPhase_balances phase _ fun tag image target generation hj => ?_)
  refine (s.setStoreSlot_balances target _).trans (State.endSave_balances ?_ tag generation true)
  rwa [State.jobReserved, State.setStoreSlot_storeJob]

theorem State.endSave_balances_of_inPhase (s : State) (phase : Nat) (phases : List SavePhase) :
    s.Balances (s.awake fun s => s.inPhase phase phases fun tag _ _ generation => s.endSave tag generation false) :=
  State.awake_balances (State.inPhase_balances phase phases fun tag _ _ generation hj => State.endSave_balances hj tag generation false)

theorem execEraseInvalidationCompletion_balances {cleared : Bool} (h : execEraseInvalidationCompletion cleared s phase = .next t) :
    s.Balances t := by
  cases h
  refine State.awake_balances (State.inErase_balances phase fun tag slot rest held hj => ?_)
  split
  · exact State.eraseNext_balances ((Nat.zero_add _).trans hj) tag rest
  · have restored (x : StoreSlot) (generation : Word) : s.Balances { s.setStoreSlot slot x with generation := generation } :=
      (s.setStoreSlot_balances slot x).trans (.of_fields rfl rfl rfl rfl rfl rfl)
    refine (restored _ _).trans (State.endErase_balances ?_ tag _)
    rw [State.jobReserved, State.setStoreSlot_storeJob, Nat.zero_add]
    exact hj

theorem execEraseTimerExpiry_balances (h : execEraseTimerExpiry s phase = .next t) : s.Balances t := by
  cases h
  exact State.awake_balances (State.inErase_balances phase fun tag _ _ _ hj => State.endErase_balances ((Nat.zero_add _).trans hj) tag _)

end

/-! ## Link events -/

/-- The link and the slot order are not read by the accounts. -/
theorem State.setLink_balances (s : State) (link : LinkTransaction) (order : List SlotId) (ack : Bool) (byte : Byte) :
    s.Balances { s with link := link, slotOrder := order, linkAck := ack, linkByte := byte } := .of_fields rfl rfl rfl rfl rfl rfl

theorem State.endWrite_balances (s : State) (id : SlotId) (overLength : Bool) : s.Balances (s.endWrite id overLength) := by
  unfold State.endWrite
  extract_lets u
  have ended : s.Balances u := s.setLink_balances .none _ _ _
  refine ended.trans ?_
  split
  · split
    · exact u.setSlot_balances id _
    · split
      · exact (u.setSlot_balances id _).trans (State.setLink_balances _ _ _ _ _)
      · exact (u.setSlot_balances id _).trans (State.rejectFrame_balances _)
  · exact .refl u

/-- A message that was read gives its bytes back (R150, R153). -/
theorem State.dropHead_balances (s : State) : s.Balances { s with outbound := s.outbound.tail } := by
  refine QueueOnly.balances (n := 0) (by constructor <;> rfl) rfl fun _ h => ?_
  have less : (s.outbound.tail.map Message.length).sum ≤ (s.outbound.map Message.length).sum :=
    (s.outbound.tail_sublist.map _).sum_le_sum fun _ _ => Nat.zero_le _
  unfold State.SpaceKept State.occupied at *
  exact (Nat.add_le_add_right less _).trans h

theorem State.endRead_balances (s : State) (message : Option Message) (sent : Nat) : s.Balances (s.endRead message sent) := by
  unfold State.endRead
  extract_lets u
  have ended : s.Balances u := s.setLink_balances .none _ _ _
  refine ended.trans ?_
  split
  · split
    · exact u.dropHead_balances.trans (State.walk_balances _)
    · exact .refl u
  · exact .refl u

theorem State.endLink_balances (s : State) : s.Balances s.endLink := by
  unfold State.endLink
  split
  · exact s.endWrite_balances _ _
  · exact s.endRead_balances _ _
  · exact .refl s

section
variable {s t : State}

theorem execWriteTransactionStart_balances {address : BitVec 7} (h : execWriteTransactionStart address s = .next t) : s.Balances t := by
  cases h
  split
  · exact s.acknowledge_balances false
  · refine s.endLink_balances.trans ?_
    dsimp only
    split
    · split
      · exact (State.setSlot_balances _ _ _).trans (State.setLink_balances _ _ _ _ _)
      · exact State.acknowledge_balances _ false
    · exact State.acknowledge_balances _ false

theorem execWriteDataByte_balances {data : Byte} (h : execWriteDataByte data s = .next t) : s.Balances t := by
  cases h
  split
  · unfold State.storeByte
    split
    · split
      · exact (s.setSlot_balances _ _).trans (State.acknowledge_balances _ true)
      · exact s.setLink_balances _ _ _ _
    · exact s.acknowledge_balances false
  · exact s.acknowledge_balances false

theorem execWriteTransactionEnd_balances (h : execWriteTransactionEnd s = .next t) : s.Balances t := by
  cases h
  refine State.awake_balances ?_
  split
  · exact s.endWrite_balances _ _
  · exact .refl s

theorem execReadTransactionStart_balances {address : BitVec 7} (h : execReadTransactionStart address s = .next t) : s.Balances t := by
  cases h
  split
  · exact s.acknowledge_balances false
  · refine s.endLink_balances.trans ?_
    dsimp only
    split
    · exact State.setLink_balances _ _ _ _ _
    · exact State.acknowledge_balances _ false

theorem execReadByteClocked_balances (h : execReadByteClocked s = .next t) : s.Balances t := by
  cases h
  refine State.awake_balances ?_
  split
  · exact s.setLink_balances _ _ _ _
  · exact .refl s

theorem execReadTransactionEnd_balances (h : execReadTransactionEnd s = .next t) : s.Balances t := by
  cases h
  refine State.awake_balances ?_
  split
  · exact s.endRead_balances _ _
  · exact .refl s

theorem execStallTimerExpiry_balances (h : execStallTimerExpiry s = .next t) : s.Balances t := by
  cases h
  refine State.awake_balances ?_
  extract_lets released
  have release : s.Balances released := s.setLink_balances _ _ _ _
  split
  · exact (release.trans (released.setSlot_balances _ _)).trans (State.rejectFrame_balances _)
  · exact release
  · exact .refl s

end

/-! ## Every command -/

theorem exec_balances {c : Instr} {s t : State} (hreset : resetRow c = false) (hc : s.ConfigsInRange) (h : exec c s = .next t) :
    s.Balances t := by
  cases c with
  | resetRequest | powerUp | rstPinLow | resetComplete => cases hreset
  | status =>
    cases h
    exact State.take_balances hc _ fun rq u hk _ => by
      split; exacts [u.refuse_balances _, u.answer_balances _ (reservation_of_kind hk).ge]
  | lineSet =>
    cases h
    exact State.take_balances hc _ fun rq u hk _ => by
      split; exacts [u.refuse_balances _, u.lineSet_balances (reservation_of_kind hk) _ _]
  | lineEnable =>
    cases h
    exact State.take_balances hc _ fun rq u hk hu => by
      split; exacts [u.refuse_balances _, u.lineEnable_balances (reservation_of_kind hk) _ hu]
  | lineDisable =>
    cases h
    exact State.take_balances hc _ fun rq u hk _ => by
      split; exacts [u.refuse_balances _, u.lineDisable_balances (reservation_of_kind hk) _]
  | lineInfo =>
    cases h
    exact State.take_balances hc _ fun rq u hk _ => by
      split; exacts [u.refuse_balances _, u.lineInfo_balances (reservation_of_kind hk) _ _]
  | nodeAdd =>
    cases h
    refine State.take_balances hc _ fun rq u hk hu => ?_
    split
    · exact u.refuse_balances _
    · exact u.nodeAdd_balances (reservation_of_kind hk) (nodeBody_inRange ‹_›) hu _
  | nodeSet =>
    cases h
    exact State.take_balances hc _ fun rq u hk _ => by
      split; exacts [u.refuse_balances _, u.nodeSet_balances (reservation_of_kind hk) _ _]
  | nodeRemove =>
    cases h
    exact State.take_balances hc _ fun rq u hk _ => by
      split; exacts [u.refuse_balances _, u.nodeRemove_balances (reservation_of_kind hk) _]
  | nodeEnable =>
    cases h
    exact State.take_balances hc _ fun rq u hk hu => by
      split; exacts [u.refuse_balances _, u.nodeEnable_balances (reservation_of_kind hk) hu _]
  | nodeDisable =>
    cases h
    exact State.take_balances hc _ fun rq u hk _ => by
      split; exacts [u.refuse_balances _, u.nodeDisable_balances (reservation_of_kind hk) _]
  | nodeInfo =>
    cases h
    exact State.take_balances hc _ fun rq u hk _ => by
      split; exacts [u.refuse_balances _, u.nodeInfo_balances (reservation_of_kind hk) _ _]
  | readSnapshot =>
    cases h
    exact State.take_balances hc _ fun rq u hk _ => by
      split; exacts [u.refuse_balances _, u.readSnapshot_balances (reservation_of_kind hk) _]
  | demand =>
    cases h
    exact State.take_balances hc _ fun rq u hk hu => by
      split; exacts [u.refuse_balances _, u.demand_balances hk hu ‹_›]
  | broadcast =>
    cases h
    exact State.take_balances hc _ fun rq u hk hu => by
      split; exacts [u.refuse_balances _, u.broadcast_balances hk hu ‹_›]
  | cancel =>
    cases h
    exact State.take_balances hc _ fun rq u hk _ => by
      split; exacts [u.refuse_balances _, u.cancel_balances (reservation_of_kind hk) _]
  | scanStart =>
    cases h
    exact State.take_balances hc _ fun rq u hk hu => by
      split; exacts [u.refuse_balances _, u.scanStart_balances (reservation_of_kind hk) hu _ _ _ _]
  | scanAbort =>
    cases h
    exact State.take_balances hc _ fun rq u hk _ => by
      split; exacts [u.refuse_balances _, u.scanAbort_balances (reservation_of_kind hk) _]
  | storeSave =>
    cases h
    exact State.take_balances hc _ fun rq u hk _ => by
      split; exacts [u.refuse_balances _, u.storeSave_balances (reservation_of_kind hk)]
  | storeErase =>
    cases h
    exact State.take_balances hc _ fun rq u hk _ => by
      split; exacts [u.refuse_balances _, u.storeErase_balances (reservation_of_kind hk)]
  | unknownKind =>
    cases h
    refine State.take_balances hc _ fun rq u hk _ => u.queueReply_balances ?_
    rw [reservation_of_unknown hk]
    exact le_refl 7
  | writeTransactionStart => exact execWriteTransactionStart_balances h
  | writeTransactionEnd => exact execWriteTransactionEnd_balances h
  | readTransactionStart => exact execReadTransactionStart_balances h
  | readTransactionEnd => exact execReadTransactionEnd_balances h
  | stallTimerExpiry => exact execStallTimerExpiry_balances h
  | writeDataByte => exact execWriteDataByte_balances h
  | readByteClocked => exact execReadByteClocked_balances h
  | pollTimerExpiry => exact execPollTimerExpiry_balances hc h
  | recoveryTimerExpiry => exact execRecoveryTimerExpiry_balances hc h
  | dueTimeAdvance => exact execDueTimeAdvance_balances h
  | snapshotAgeOut => exact execSnapshotAgeOut_balances h
  | partTimeTick => cases h; exact State.awake_balances (.of_fields rfl rfl rfl rfl rfl rfl)
  | responseTimerExpiry => exact execResponseTimerExpiry_balances h
  | frameGapExpiry => exact execFrameGapExpiry_balances h
  | echoDeadlineExpiry => exact execEchoDeadlineExpiry_balances h
  | stuckSpaceExpiry => exact execStuckSpaceExpiry_balances h
  | faultRecovery => exact execFaultRecovery_balances hc h
  | guardEnd => exact execGuardEnd_balances hc h
  | stopBitSent => exact execStopBitSent_balances h
  | receivePinChange => exact execReceivePinChange_balances h
  | fieldCharacterReceived => exact execFieldCharacterReceived_balances h
  | saveWriteCompletion => exact execSaveWriteCompletion_balances h
  | saveVerifyReadBack => exact execSaveVerifyReadBack_balances h
  | saveMarkWriteCompletion => exact execSaveMarkWriteCompletion_balances h
  | eraseInvalidationCompletion => exact execEraseInvalidationCompletion_balances h
  | saveWriteTimerExpiry | saveVerifyTimerExpiry => cases h; exact s.endSave_balances_of_inPhase _ _
  | eraseTimerExpiry => exact execEraseTimerExpiry_balances h

/-! ## The accounts between steps -/

theorem State.Accounted.balanced {s : State} (h : s.Accounted) (quiet : s.Quiet) : s.Balanced 0 :=
  ⟨h.space, h.total.trans (Nat.zero_add _).symm, fun l => ⟨quiet l, h.entries l, h.flight l, h.found l⟩, h.payloads⟩

/-- With nothing owed, the reservation total is that of the reservations standing. -/
theorem State.Balanced.accounted {s : State} (h : s.Balanced 0) (hc : s.ConfigsInRange) : s.Accounted :=
  ⟨h.space, h.total.trans (Nat.zero_add _), fun l => (h.lines l).entries, fun l => (h.lines l).flight, fun l => (h.lines l).found, hc,
    h.payloads⟩

/-! ## Resets -/

theorem State.loaded_configsInRange (s : State) (cause : ResetCause) (strap : BitVec 2) : (s.loaded cause strap).ConfigsInRange :=
  (s.loaded_storeInOrder cause strap).configs

/-- A load stores no payload. -/
theorem State.loaded_payloadsFit (s : State) (cause : ResetCause) (strap : BitVec 2) : (s.loaded cause strap).PayloadsFit := by
  intro i x r hx hr
  obtain hx | ⟨q, -, -, rfl⟩ := table_fold_some (fun _ => ({} : Snapshot)) s.loadedImage.nodes _ i x hx
  · rw [get_replicate_none] at hx; cases hx
  · cases hr

/-- READY, which alone is in the queue after the load, has 11 bytes, and nothing is reserved (R102). -/
theorem State.loaded_balanced (s : State) (cause : ResetCause) (strap : BitVec 2) : (s.loaded cause strap).Balanced 0 := by
  refine ⟨Nat.le_of_ble_eq_true rfl, rfl, fun l => ?_, s.loaded_payloadsFit cause strap⟩
  obtain ⟨settings, enabled, pinMark, e⟩ := s.loaded_line cause strap l
  rw [e]
  exact ⟨fun _ => rfl, nofun, nofun, nofun⟩

theorem State.makeAllDue_balances (is : List Index) (s : State) : s.Balances (is.foldl State.makeDueIfNew s) := by
  induction is generalizing s with
  | nil => exact .refl s
  | cons i is ih =>
    refine State.Balances.trans ?_ (ih _)
    unfold State.makeDueIfNew
    split
    · split
      · exact s.makeDue_balances _ i
      · exact .refl s
    · exact .refl s

theorem State.comeOut_accounted (s : State) (cause : ResetCause) (strap : BitVec 2) : (s.comeOut cause strap).Accounted := by
  have due : ((allIndices.foldl State.makeDueIfNew (s.loaded cause strap))).ConfigsInRange :=
    (s.loaded_configsInRange cause strap).kept (State.makeAllDue_configsKept _ _)
  have asked := due.kept (State.askArbiter_configsKept _ .a)
  have balances := ((State.makeAllDue_balances allIndices (s.loaded cause strap)).trans (State.askArbiter_balances due .a)).trans
    (State.askArbiter_balances asked .b)
  exact (balances 0 (s.loaded_balanced cause strap)).accounted (asked.kept (State.askArbiter_configsKept _ .b))

/-! ## Every step -/

/-- RESET, refused for its body, settles its own reservation; otherwise it begins a reset (R156, R160). -/
theorem execReset_accountsKept {s t : State} (quiet : s.resetting = none → s.Quiet) (hs : s.AccountsKept) (h : execReset s = .next t) :
    t.AccountsKept := by
  cases h
  obtain e | ⟨id, rq, ⟨awake, -, -, fits⟩, e⟩ := s.take_cases (some .reset) _ <;> rw [e]
  · exact hs
  · split
    · intro _
      have accounted := hs awake
      have refused := (State.accept_balances fits).trans (State.refuse_balances (s.accept id rq) .badBody)
      exact (refused 0 (accounted.balanced (quiet awake))).accounted
        (State.ConfigsInRange.of_nodes accounted.configs (by simp [(State.answer_queueOnly _ rq _ _).nodes]))
    · exact nofun

theorem exec_accountsKept_of_resetRow {c : Instr} {s t : State} (hreset : resetRow c = true) (quiet : s.resetting = none → s.Quiet)
    (hs : s.AccountsKept) (h : exec c s = .next t) : t.AccountsKept := by
  cases c with
  | powerUp => cases h; exact nofun
  | rstPinLow =>
    cases h
    split
    · exact hs
    · exact nofun
  | resetComplete =>
    cases h
    split
    · exact fun _ => s.comeOut_accounted _ _
    · exact hs
  | resetRequest => exact execReset_accountsKept quiet hs h
  | _ => cases hreset

theorem exec_accountsKept {c : Instr} {s t : State} (quiet : s.resetting = none → s.Quiet) (hs : s.AccountsKept)
    (h : exec c s = .next t) : t.AccountsKept := by
  cases hreset : resetRow c with
  | true => exact exec_accountsKept_of_resetRow hreset quiet hs h
  | false =>
    have outside (a b : Bool) : c ≠ .resetComplete a b := fun e => by rw [e] at hreset; cases hreset
    intro ht
    have awake : s.resetting = none := by
      by_contra hr
      obtain ⟨cause, hr⟩ := Option.ne_none_iff_exists'.mp hr
      exact exec_resetting hr outside h ht
    have accounted := hs awake
    exact (exec_balances hreset accounted.configs h 0 (accounted.balanced (quiet awake))).accounted
      (exec_configsInRange accounted.configs outside h)

/-- Settles O59: every operation of the part moves reservations between the total, the lines and the store job, and each reply fits the
reservation that it releases; a reset starts afresh. -/
theorem spaceStaysWithinQueue : Obligations.SpaceStaysWithinQueue := by
  intro s t lines hs h
  obtain rfl | ⟨c, rest, -, h⟩ := step_cases h
  · exact hs
  · refine exec_accountsKept (s := { s with pending := rest }) (fun awake => lines.quiet awake) (fun awake => ?_) h
    obtain ⟨space, total, entries, flight, found, configs, payloads⟩ := hs awake
    exact ⟨space, total, entries, flight, found, configs, payloads⟩

end Sys2Proof.Machine
/-! SUPPORT. The host link (R145 to R151): what each row does out of reset, and which frames become requests (R148). -/

namespace Sys2Proof.Machine

/-! ## Request frames -/

/-- A frame that passes the checks is that of a request, its LEN byte within 5..63 (R148, R162). -/
theorem frameAccepted_iff (bytes : List Byte) : frameAccepted bytes = true ↔
    ∃ kind tag body, body.length ≤ 58 ∧ bytes = withCrc (byteOf (5 + body.length) :: kind :: tag :: body) := by
  constructor
  · intro h
    match bytes with
    | [] => cases h
    | [_] | [_, _] | [_, _, _] =>
      obtain ⟨least, -, length, -⟩ := frameAccepted_cons.mp h
      simp only [List.length_cons, List.length_nil] at length
      omega
    | len :: kind :: tag :: b :: rest =>
      obtain ⟨least, most, length, checked⟩ := frameAccepted_cons.mp h
      simp only [List.length_cons, Config.slotCapacity] at length most
      have taken : (len :: kind :: tag :: b :: rest).take ((len :: kind :: tag :: b :: rest).length - 2) =
          len :: kind :: tag :: (b :: rest).take (rest.length - 1) := by
        rw [show (len :: kind :: tag :: b :: rest).length - 2 = rest.length - 1 + 3 by simp only [List.length_cons]; omega]
        rfl
      have body : ((b :: rest).take (rest.length - 1)).length = rest.length - 1 := by
        rw [List.length_take, List.length_cons]
        omega
      refine ⟨kind, tag, (b :: rest).take (rest.length - 1), by omega, ?_⟩
      rw [body, show 5 + (rest.length - 1) = len.toNat by omega, byteOf_toNat, ← taken, checked]
  · rintro ⟨kind, tag, body, most, rfl⟩
    exact Request.frameAccepted_frame (r := ⟨kind, tag, body⟩) most

/-! ## Messages -/

/-- A message is as long as its bytes are many (R162). -/
@[simp] theorem Message.bytes_length (m : Message) : m.bytes.length = m.length := by
  simp only [Message.bytes, length_withCrc, List.length_cons, Message.length]
  omega

/-- The byte after the last one sent, while the message has one (R149). -/
theorem readByte_of_some {m : Message} {sent : Nat} {b : Byte} (h : m.bytes[sent]? = some b) : readByte (some m) sent = b := by
  simp only [readByte, h, Option.getD_some]

theorem readByte_of_sent {m : Message} {sent : Nat} (h : m.bytes.length ≤ sent) : readByte (some m) sent = 0xFF := by
  simp only [readByte, List.getElem?_eq_none h, Option.getD_none]

/-! ## The end of a write -/

theorem countLinkError_eq (c : Byte) : countLinkError c = if c = 255 then 255 else c + 1 := by
  unfold countLinkError
  split
  · assumption
  · rfl

section
variable {s : State} {id : SlotId} {bytes : List Byte} (h : s.slot id = .filling bytes)
include h

theorem State.slot_setLink (link : LinkTransaction) : State.slot { s with link := link } id = .filling bytes := by
  rw [← h]
  cases id <;> rfl

theorem State.endWrite_of_empty (hb : bytes = []) : s.endWrite id false = { s.setSlot id .free with link := .none } := by
  simp only [State.endWrite, State.slot_setLink h, hb, true_and, if_true]
  cases id <;> rfl

theorem State.endWrite_of_accepted (ha : frameAccepted bytes = true) :
    s.endWrite id false = { s.setSlot id (.full bytes) with link := .none, slotOrder := s.slotOrder ++ [id] } := by
  have nonempty : bytes ≠ [] := by rintro rfl; cases ha
  simp only [State.endWrite, State.slot_setLink h, nonempty, ha, false_and, true_and, if_true, if_false]
  cases id <;> rfl

theorem State.endWrite_of_rejected {overLength : Bool}
    (hr : overLength = true ∨ bytes ≠ [] ∧ ¬frameAccepted bytes = true) :
    s.endWrite id overLength = State.rejectFrame { s.setSlot id .free with link := .none } := by
  have some_ : ¬(bytes = [] ∧ overLength = false) := by
    rintro ⟨empty, short⟩
    obtain long | ⟨nonempty, -⟩ := hr
    · exact absurd (short.symm.trans long) nofun
    · exact nonempty empty
  have refused : ¬(overLength = false ∧ frameAccepted bytes = true) := by
    rintro ⟨short, accepted⟩
    obtain long | ⟨-, unaccepted⟩ := hr
    · exact absurd (short.symm.trans long) nofun
    · exact unaccepted accepted
  simp only [State.endWrite, State.slot_setLink h, if_neg some_, if_neg refused]
  cases id <;> rfl

end

theorem State.rejectFrame_eq (s : State) : s.rejectFrame =
    State.mark { s with linkErrors := if s.linkErrors = 255 then 255 else s.linkErrors + 1 } .linkError := by
  rw [State.rejectFrame, countLinkError_eq]

/-! ## The rows out of reset -/

section
variable {s : State} (hs : s.resetting = none)
include hs

theorem exec_writeTransactionEnd_of_write {id : SlotId} {overLength : Bool} (hl : s.link = .write id overLength) :
    exec .writeTransactionEnd s = .next (s.endWrite id overLength) := by
  show execWriteTransactionEnd s = _
  rw [execWriteTransactionEnd, State.awake_of_none hs, hl]

theorem exec_readTransactionEnd_of_read {message : Option Message} {sent : Nat} (hl : s.link = .read message sent) :
    exec .readTransactionEnd s = .next (s.endRead message sent) := by
  show execReadTransactionEnd s = _
  rw [execReadTransactionEnd, State.awake_of_none hs, hl]

theorem exec_writeDataByte_of_write {id : SlotId} {overLength : Bool} (hl : s.link = .write id overLength) (data : Byte) :
    exec (.writeDataByte data) s = .next (s.storeByte id data) := by
  show execWriteDataByte data s = _
  rw [execWriteDataByte, hs, hl]

theorem exec_readByteClocked_of_read {message : Option Message} {sent : Nat} (hl : s.link = .read message sent) :
    exec .readByteClocked s = .next { s with link := .read message (sent + 1), linkByte := readByte message sent } := by
  show execReadByteClocked s = _
  rw [execReadByteClocked, State.awake_of_none hs, hl]

end

/-- What a start condition of a write does once no transaction is in progress: the address is compared, and a FREE slot
taken (R145, R147). -/
def State.startWrite (s : State) (address : BitVec 7) : State :=
  if address = s.targetAddress then
    match s.freeSlot with
    | some id => ({ s.setSlot id (.filling []) with link := .write id false }).acknowledge true
    | none => s.acknowledge false
  else s.acknowledge false

/-- What a start condition of a read does once no transaction is in progress: the head message is fixed (R145, R149). -/
def State.startRead (s : State) (address : BitVec 7) : State :=
  if address = s.targetAddress then ({ s with link := .read s.outbound.head? 0 }).acknowledge true else s.acknowledge false

theorem exec_writeTransactionStart_of_awake {s : State} (hs : s.resetting = none) (address : BitVec 7) :
    exec (.writeTransactionStart address) s = .next (s.endLink.startWrite address) := by
  show execWriteTransactionStart address s = _
  rw [execWriteTransactionStart, hs]
  rfl

theorem exec_readTransactionStart_of_awake {s : State} (hs : s.resetting = none) (address : BitVec 7) :
    exec (.readTransactionStart address) s = .next (s.endLink.startRead address) := by
  show execReadTransactionStart address s = _
  rw [execReadTransactionStart, hs]
  rfl

/-! ## A start within a transaction -/

theorem State.endLink_of_none {s : State} (h : s.link = .none) : s.endLink = s := by rw [State.endLink, h]

theorem State.endWrite_idle (s : State) (id : SlotId) (overLength : Bool) :
    (s.endWrite id overLength).link = .none ∧ (s.endWrite id overLength).resetting = s.resetting := by
  unfold State.endWrite
  dsimp only
  split
  · split
    · simp
    · split
      · simp
      · simp [(State.rejectFrame_queueOnly _).link, (State.rejectFrame_queueOnly _).resetting]
  · exact ⟨rfl, rfl⟩

theorem State.endRead_idle (s : State) (message : Option Message) (sent : Nat) :
    (s.endRead message sent).link = .none ∧ (s.endRead message sent).resetting = s.resetting := by
  unfold State.endRead
  dsimp only
  split
  · split
    · simp [(State.walk_queueOnly _).link, (State.walk_queueOnly _).resetting]
    · exact ⟨rfl, rfl⟩
  · exact ⟨rfl, rfl⟩

/-- The end row of the transaction in progress leaves the state in which a start condition that came within it would begin its own
(R148, R150, log entry 10). -/
theorem State.endLink_of_end {s u : State} (hs : s.resetting = none)
    (h : (∃ id overLength, s.link = .write id overLength ∧ exec .writeTransactionEnd s = .next u) ∨
      ∃ message sent, s.link = .read message sent ∧ exec .readTransactionEnd s = .next u) :
    u.resetting = none ∧ u.endLink = s.endLink := by
  obtain ⟨id, overLength, hl, h⟩ | ⟨message, sent, hl, h⟩ := h
  · obtain rfl := Host.Outcome.next.inj ((exec_writeTransactionEnd_of_write hs hl).symm.trans h)
    obtain ⟨link, resetting⟩ := s.endWrite_idle id overLength
    exact ⟨resetting.trans hs, (State.endLink_of_none link).trans (by rw [State.endLink, hl])⟩
  · obtain rfl := Host.Outcome.next.inj ((exec_readTransactionEnd_of_read hs hl).symm.trans h)
    obtain ⟨link, resetting⟩ := s.endRead_idle message sent
    exact ⟨resetting.trans hs, (State.endLink_of_none link).trans (by rw [State.endLink, hl])⟩

theorem exec_writeTransactionStart_of_end {s u : State} (hs : s.resetting = none) (address : BitVec 7)
    (h : (∃ id overLength, s.link = .write id overLength ∧ exec .writeTransactionEnd s = .next u) ∨
      ∃ message sent, s.link = .read message sent ∧ exec .readTransactionEnd s = .next u) :
    exec (.writeTransactionStart address) s = exec (.writeTransactionStart address) u := by
  obtain ⟨awake, same⟩ := State.endLink_of_end hs h
  rw [exec_writeTransactionStart_of_awake hs, exec_writeTransactionStart_of_awake awake, same]

theorem exec_readTransactionStart_of_end {s u : State} (hs : s.resetting = none) (address : BitVec 7)
    (h : (∃ id overLength, s.link = .write id overLength ∧ exec .writeTransactionEnd s = .next u) ∨
      ∃ message sent, s.link = .read message sent ∧ exec .readTransactionEnd s = .next u) :
    exec (.readTransactionStart address) s = exec (.readTransactionStart address) u := by
  obtain ⟨awake, same⟩ := State.endLink_of_end hs h
  rw [exec_readTransactionStart_of_awake hs, exec_readTransactionStart_of_awake awake, same]

/-! ## Writes -/

/-- The strap value selects one of four addresses (R145). -/
theorem State.targetAddress_toNat (s : State) : s.targetAddress.toNat = 0x3A + s.strap.toNat := by
  have strap_lt := s.strap.isLt
  rw [State.targetAddress, Config.targetBase, BitVec.toNat_add, BitVec.toNat_setWidth, show (0x3A : BitVec 7).toNat = 0x3A from rfl]
  omega

/-- Settles O27: a start in a link at rest is `State.startWrite`, and one within a transaction comes after that transaction's end row. -/
theorem writeTransactionFillsSlot : Obligations.WriteTransactionFillsSlot := by
  refine ⟨State.targetAddress_toNat, fun s address hs hl => ?start, fun s u address hs => ?within,
    fun s id overLength bytes data hs hl hf => ?byte⟩
  case start =>
    intro start
    have starts : start = .next (s.startWrite address) := by
      rw [← State.endLink_of_none hl]
      exact exec_writeTransactionStart_of_awake hs address
    rw [starts]
    refine ⟨fun ha => ?_, fun ha => by rw [State.startWrite, if_neg ha]; rfl⟩
    rw [State.startWrite, if_pos ha, State.freeSlot]
    refine ⟨fun free0 => ?_, fun full0 free1 => ?_, fun full0 full1 => ?_⟩
    · rw [if_pos free0]; rfl
    · rw [if_neg full0, if_pos free1]; rfl
    · rw [if_neg full0, if_neg full1]; rfl
  case within =>
    exact ⟨fun id overLength hl h => exec_writeTransactionStart_of_end hs address (.inl ⟨id, overLength, hl, h⟩),
      fun message sent hl h => exec_writeTransactionStart_of_end hs address (.inr ⟨message, sent, hl, h⟩)⟩
  case byte =>
    rw [exec_writeDataByte_of_write hs hl, State.storeByte, hf]
    exact ⟨fun room => congrArg _ (if_pos room), fun full => congrArg _ (if_neg full.not_gt)⟩

/-- Settles O28: the slot decides, by the frames of requests that the checks accept. -/
theorem writeEndChecksFrame : Obligations.WriteEndChecksFrame := by
  intro s id overLength bytes hs hl hf good freed
  have accepted : good ↔ frameAccepted bytes = true := (frameAccepted_iff bytes).symm
  have linkErrors : freed.linkErrors = s.linkErrors := by simp [freed]
  rw [exec_writeTransactionEnd_of_write hs hl, accepted]
  refine ⟨fun empty short => ?_, fun ha short => ?_, fun hr => ?_⟩
  · rw [short, State.endWrite_of_empty hf empty]
  · rw [short, State.endWrite_of_accepted hf ha]
  · rw [State.endWrite_of_rejected hf hr, State.rejectFrame_eq, linkErrors]

/-! ## Reads -/

/-- Settles O29: a start is `State.startRead`, a byte is `readByte`, and each message is spelled out by its definition. -/
theorem readTransactionSendsHead : Obligations.ReadTransactionSendsHead := by
  refine ⟨fun s address hs hl => ?start, fun s u address hs => ?within, fun s message sent hs hl => ?byte, fun s hs => ?attention,
    fun r => ?reply, fun _ _ _ => rfl, fun i address l state code hcode => ?nodeState, fun _ _ _ => rfl, fun _ _ _ => rfl, fun _ => rfl,
    rfl, rfl, rfl, rfl, rfl, rfl, fun _ _ _ => rfl⟩
  case start =>
    rw [exec_readTransactionStart_of_awake hs, State.endLink_of_none hl, State.startRead]
    exact ⟨fun ha => congrArg _ (if_pos ha), fun ha => congrArg _ (if_neg ha)⟩
  case within =>
    exact ⟨fun id overLength hl h => exec_readTransactionStart_of_end hs address (.inl ⟨id, overLength, hl, h⟩),
      fun message sent hl h => exec_readTransactionStart_of_end hs address (.inr ⟨message, sent, hl, h⟩)⟩
  case byte =>
    intro sends
    have clocked {byte : Byte} (h : readByte message sent = byte) : sends byte := h ▸ exec_readByteClocked_of_read hs hl
    refine ⟨fun m b hm hb => ?_, fun m hm hb => ?_, fun hm hz => ?_, fun hm hz => ?_⟩ <;> subst hm
    · exact clocked (readByte_of_some hb)
    · exact clocked (readByte_of_sent hb)
    · exact clocked (if_pos hz)
    · exact clocked (if_neg (Nat.pos_iff_ne_zero.mp hz))
  case attention => simp [State.attention, hs]
  case reply => rw [Message.bytes, Message.length_reply]; rfl
  case nodeState =>
    have body : state.bytes = [code] := by rw [NodeState.bytes, hcode]; rfl
    rw [Message.bytes, Message.length, Message.body, Notice.body, body]
    rfl

/-- Settles O30: a message as long as the bytes sent leaves the queue. -/
theorem readEndRemovesWholeMessage : Obligations.ReadEndRemovesWholeMessage := by
  intro s message sent hs hl
  rw [exec_readTransactionEnd_of_read hs hl]
  refine ⟨fun m hm whole => ?_, fun m hm part => ?_, fun hm => ?_⟩ <;> subst hm
  · exact congrArg _ (if_pos (m.bytes_length ▸ whole))
  · exact congrArg _ (if_neg (m.bytes_length ▸ part.not_ge))
  · rfl

/-- Settles O31: the row releases SDA, and rejects the frame of a write as it stands. -/
theorem stalledTransactionAbandoned : Obligations.StalledTransactionAbandoned := by
  intro s hs released
  have stalls : exec .stallTimerExpiry s = .next (match s.link with
      | .write id _ => (released.setSlot id .free).rejectFrame
      | .read _ _ => released
      | .none => s) := congrArg _ (State.awake_of_none hs _)
  rw [stalls]
  refine ⟨fun id overLength hl => ?_, fun message sent hl => ?_, fun hl => ?_⟩
  · rw [hl]
    dsimp only
    rw [State.rejectFrame_eq, State.setSlot_linkErrors]
  · rw [hl]
  · have writeEnd : exec .writeTransactionEnd s = .next s := congrArg _ ((State.awake_of_none hs _).trans (by rw [hl]))
    have readEnd : exec .readTransactionEnd s = .next s := congrArg _ ((State.awake_of_none hs _).trans (by rw [hl]))
    rw [hl]
    exact ⟨rfl, writeEnd, readEnd⟩

/-! ## Replies -/

/-- Settles O48: the length of a reply is 6 and that of its data. -/
theorem replyQueuedUnderReservation : Obligations.ReplyQueuedUnderReservation := by
  refine ⟨fun s => ?_, fun s reservation r => ⟨fun short => ?_, fun exact_ => ?_⟩⟩
  · simp only [Message.bytes_length]
    rfl
  · exact if_pos (by rw [Message.length_reply]; omega)
  · exact s.queueReply_exact (by omega)

end Sys2Proof.Machine
/-! SUPPORT. Taking a request (R154, R155), the generic checks (R156) and STATUS (R159). -/

namespace Sys2Proof.Machine

/-- Settles O1: the two branches of `step`. -/
theorem stepRunsFrontCommand : Obligations.StepRunsFrontCommand :=
  ⟨fun _ _ _ => rfl, fun _ => rfl⟩

/-! ## The rows of the requests -/

/-- The row of a request kind takes a request of it, and its owner answers BAD-BODY to a body that is not one of the kind (R154,
R156). -/
theorem exec_requestRow {c : Instr} {k : Option RequestKind} (h : requestOfRow c = some k) :
    ∃ owner, (∀ s, exec c s = .next (s.take k owner)) ∧
      ∀ j, k = some j → ∀ rq u, j.bodyGood rq.body = false → owner rq u = u.answer rq .badBody [] := by
  cases c <;> cases h <;> refine ⟨_, fun _ => rfl, fun j hj rq u bad => ?_⟩ <;> cases hj <;>
    rw [RequestKind.bodyGood, Option.isSome_eq_false_iff, Option.isNone_iff_eq_none] at bad <;> simp only [bad]

/-- A row of a request leaves a part alone in which no request of its kind is ready (R154). -/
theorem exec_eq_self_of_not_ready {c : Instr} {k : Option RequestKind} {s : State} (h : requestOfRow c = some k)
    (waits : ∀ id rq, ¬ s.ready k id rq) : exec c s = .next s := by
  obtain ⟨owner, row, -⟩ := exec_requestRow h
  rw [row]
  obtain e | ⟨id, rq, ready, -⟩ := s.take_cases k owner
  · rw [e]
  · exact absurd ready (waits id rq)

/-! ## Reservations -/

theorem not_inRange {n low high : Nat} (h : n < low ∨ high < n) : ¬ inRange n low high = true := by
  rw [inRange_eq_true_iff]
  omega

/-- A count of 0, or one above the largest, is out of range. -/
theorem not_inRange_count {count : Byte} {most : Nat} (h : count = 0 ∨ most < count.toNat) : ¬ inRange count.toNat 1 most = true :=
  not_inRange (h.imp (by rintro rfl; decide) id)

section
variable {body : List Byte} {count : Byte}

theorem demandReservation_of_read (h : body[1]? = some 2) (hc : body[4]? = some count) :
    demandReservation body = if inRange count.toNat 1 24 then 8 + 2 * count.toNat else 6 := by
  unfold demandReservation
  rw [h, hc]
  rfl

theorem demandReservation_of_read_short (h : body[1]? = some 2) (hc : body[4]? = none) : demandReservation body = 6 := by
  unfold demandReservation
  rw [h, hc]
  rfl

theorem demandReservation_of_write (h : body[1]? = some 3) (hc : body[4]? = some count) :
    demandReservation body = if inRange count.toNat 1 22 then 9 else 6 := by
  unfold demandReservation
  rw [h, hc]
  rfl

theorem demandReservation_of_operation (ping : body[1]? ≠ some 1) (read : body[1]? ≠ some 2)
    (write : body[1]? ≠ some 3) : demandReservation body = 6 := by
  unfold demandReservation
  split
  · exact absurd ‹_› ping
  · exact absurd ‹_› read
  · exact absurd ‹_› write
  · rfl

theorem broadcastReservation_of_count (h : body[3]? = some count) :
    broadcastReservation body = if inRange count.toNat 1 22 then 7 else 6 := by
  simp only [broadcastReservation, h]

end

/-- Settles O3: a row whose request is not ready changes nothing, and the reservation of each kind. -/
theorem requestThatDoesNotFitWaits : Obligations.RequestThatDoesNotFitWaits := by
  refine ⟨fun c k s row _ => ⟨fun id rq oldest short => ?fits, fun id rq oldest other => ?kind, fun empty => ?absent⟩,
    fun rq => ⟨reservation_of_unknown, fun k n hk hn => ?fixed, fun hk => ?demand, fun hk => ?broadcast⟩⟩
  case fits =>
    refine exec_eq_self_of_not_ready row fun _ _ ⟨_, found, _, fits⟩ => ?_
    cases oldest.symm.trans found
    omega
  case kind =>
    refine exec_eq_self_of_not_ready row fun _ _ ⟨_, found, same, _⟩ => ?_
    cases oldest.symm.trans found
    exact other same
  case absent =>
    refine exec_eq_self_of_not_ready row fun _ _ ⟨_, found, _⟩ => ?_
    simp [State.oldestRequest, empty] at found
  case fixed =>
    rw [reservation_of_kind hk]
    cases k <;> simp_all
  case demand =>
    rw [reservation_of_kind hk]
    refine ⟨fun i op good => demandReservation_of_body good, demandReservation_of_operation,
      demandReservation_of_read_short, fun count read hc bad => ?_, fun count write hc bad => ?_⟩
    · rw [demandReservation_of_read read hc, if_neg (not_inRange_count bad)]
    · rw [demandReservation_of_write write hc, if_neg (not_inRange_count bad)]
  case broadcast =>
    rw [reservation_of_kind hk]
    refine ⟨fun l op good => broadcastReservation_of_body good, fun count hc bad => ?_⟩
    rw [broadcastReservation_of_count hc, if_neg (not_inRange_count bad)]

/-! ## The generic checks -/

/-- Settles O4: an unknown kind's reply fills its 7 bytes; each known kind's owner refuses a bad body first. -/
theorem genericChecksRefuse : Obligations.GenericChecksRefuse := by
  refine ⟨fun s id rq ready => ?_, fun c k s id rq row ready bad => ?_⟩
  · have reservation := reservation_of_unknown ready.2.2.1
    show Host.Outcome.next (s.take _ _) = _
    rw [State.take_of_ready ready, State.queueReply_exact _ (by rw [reservation]; rfl)]
    cases id <;> simp [State.accept, State.taken, State.setSlot, unknownReplyKind]
  · obtain ⟨owner, runs, refuses⟩ := exec_requestRow row
    rw [runs, State.take_of_ready ready, refuses k rfl rq _ bad, State.answer, kind_of_requestKindOf ready.2.2.1]

/-! ## STATUS -/

theorem emptyBody_isSome_of_ne {body : List Byte} (h : body ≠ []) : (emptyBody body).isSome = false := by
  cases body with
  | nil => exact absurd rfl h
  | cons b rest => rfl

/-- What STATUS reports right after it has been taken: its own reservation stands (R159). -/
theorem State.statusData_accept (s : State) (id : SlotId) (rq : Request) : (s.accept id rq).statusData =
    wordBytes s.partTime ++
      [s.lineA.state.code, s.lineB.state.code, byteOf (allIndices.countP fun i => (s.liveNode i).isSome)] ++
      halfBytes (BitVec.ofNat 16 (s.freeSpace - rq.reservation)) ++ halfBytes (BitVec.ofNat 16 (s.reserved + rq.reservation)) ++
      wordBytes s.generation ++
      [(if s.storeJob.isSome then 1 else 0) ||| (if s.configChanged then 2 else 0), s.strap.setWidth 8] := by
  have nodes : (s.accept id rq).nodesInUse = allIndices.countP fun i => (s.liveNode i).isSome := by
    simp only [State.nodesInUse, State.liveNode_accept, List.countP_eq_length_filter]
  have free : (s.accept id rq).freeSpace = s.freeSpace - rq.reservation := by
    cases id <;> simp only [State.freeSpace, State.occupied, State.accept, State.setSlot] <;> omega
  rw [State.statusData, nodes, free]
  cases id <;> rfl

/-- Settles O5: the reply of 23 bytes fills the reservation it reports. -/
theorem statusReports : Obligations.StatusReports := by
  intro s id rq ready
  have hkind := ready.2.2.1
  have reservation : rq.reservation = 23 := reservation_of_kind hkind
  refine ⟨fun empty => ?_, fun full => ?_⟩
  · have taken : exec .status s = .next ((s.accept id rq).answer rq .ok (s.accept id rq).statusData) := by
      show Host.Outcome.next (s.take _ _) = _
      rw [State.take_of_ready ready, (emptyBody_eq_some_iff _).mpr empty]
    rw [taken, State.statusData_accept, s.accept_answer_of_kind id hkind _ (by simp [reservation]), reservation]
    rfl
  · have bad : RequestKind.bodyGood .status rq.body = false := emptyBody_isSome_of_ne full
    rw [genericChecksRefuse.2 .status .status s id rq rfl ready bad, reservation]
    rfl

end Sys2Proof.Machine
/-! SUPPORT. The reset of the part (R161): how it begins, the laws of the state after it, and what the load of an image puts into the
tables and the due lists (R24, R89, R91, R134, R143). -/

namespace Sys2Proof.Machine

/-! ## A reset begins -/

/-- The line of a part in reset (R45, R161). -/
theorem Line.underReset_eq (x : Line) : x.underReset = { x with
    state := .off, transaction := none, openFrame := none, guardKind := none, frame := [], sent := 0, echoed := 0
    timer := .stopped, elapsed := false, reception := none } := rfl

theorem State.line_beginReset (s : State) (cause : ResetCause) (l : LineId) :
    (s.beginReset cause).line l = (s.line l).underReset := by cases l <;> rfl

/-- ATTN# is released while a reset is in progress (R152, R161). -/
theorem State.attention_of_resetting {s : State} {cause : ResetCause} (h : s.resetting = some cause) : s.attention = false := by
  simp [State.attention, h]

/-- Settles O7: both rows are `State.beginReset`, but for RST# within a POWER reset. -/
theorem resetBegins : Obligations.ResetBegins := by
  refine ⟨fun s c cause row => ⟨s.beginReset cause, ?_, rfl, State.attention_of_resetting rfl, fun l => ?_⟩, fun s power => ?_⟩
  · obtain ⟨rfl, rfl⟩ | ⟨rfl, rfl, other⟩ := row
    · rfl
    · exact congrArg Host.Outcome.next (if_neg other)
  · rw [State.line_beginReset, Line.underReset_eq]
  · exact congrArg Host.Outcome.next (if_pos power)

/-! ## The state after a reset -/

/-- The reset state is the load of an empty store after a POWER reset. -/
theorem State.loaded_reset : State.reset.loaded .power 0 = State.reset := rfl

/-- Settles O60: the load of any image has the laws, and the reset state is the load of an empty store. -/
theorem resetHasTheLaws : Obligations.ResetHasTheLaws := by
  have owes := State.reset.loaded_owes .power 0
  have balanced := State.reset.loaded_balanced .power 0
  rw [Obligations.ResetHasTheLaws, ← State.loaded_reset]
  refine ⟨fun _ l => ?lines, fun l => ?bounds, fun _ => State.loaded_agrees _ _ _, ?addresses, State.loaded_single _ _ _, owes.once,
    owes.tagsAgree, fun _ => balanced.accounted (State.loaded_configsInRange _ _ _), State.loaded_storeInOrder _ _ _,
    State.loaded_linkInOrder _ _ _⟩
  case lines =>
    obtain ⟨settings, enabled, pinMark, e⟩ := State.reset.loaded_line .power 0 l
    exact e ▸ Line.afterReset_inOrder settings enabled pinMark
  case bounds =>
    obtain ⟨settings, enabled, pinMark, e⟩ := State.reset.loaded_line .power 0 l
    exact e ▸ Line.afterReset_inBounds settings enabled pinMark
  case addresses => exact fun i j m n hi hj => Image.table_distinct State.reset.loadedImage_inRange hi hj

/-! ## The newest image -/

theorem State.loadedImage_eq (s : State) :
    s.loadedImage = (s.validSlots.getLast?.map fun id => (s.storeSlot id).image).getD Image.empty := rfl

/-- A VALID slot above every other VALID slot is the last of them (R134). -/
theorem State.newest_of_highest {s : State} {newest : SlotId} (h : (s.storeSlot newest).valid = true)
    (above : ∀ other, other ≠ newest → (s.storeSlot other).valid = true →
      (s.storeSlot other).generation.toNat < (s.storeSlot newest).generation.toNat) : s.validSlots.getLast? = some newest := by
  by_cases valid : (s.storeSlot newest.other).valid = true
  · rw [State.validSlots_of_lt valid h (above _ newest.other_ne valid)]
    rfl
  · rw [State.validSlots_of_one newest.other_ne.symm h valid]
    rfl

/-- Of two VALID slots of equal generation slot 0 counts as the newest (R134). -/
theorem State.newest_of_equal {s : State} (h0 : s.storeSlot0.valid = true) (h1 : s.storeSlot1.valid = true)
    (equal : s.storeSlot0.generation = s.storeSlot1.generation) : s.validSlots.getLast? = some .s0 := by
  simp [State.validSlots, h0, h1, equal]

/-! ## The tables that an image loads -/

theorem Image.inRange_indices {x : Image} (h : x.inRange = true) : (x.nodes.map NodeRecord.index).Nodup := by
  simp only [Image.inRange, Bool.and_eq_true, decide_eq_true_eq] at h
  exact h.1.2

section
variable {x : Image} (hx : x.inRange = true)
include hx

/-- Two records of an image do not share an index (R134). -/
theorem Image.record_unique {q r : NodeRecord} (hq : q ∈ x.nodes) (hr : r ∈ x.nodes) (h : q.index = r.index) : q = r :=
  List.inj_on_of_nodup_map (Image.inRange_indices hx) hq hr h

theorem Image.table_of_mem {r : NodeRecord} (hr : r ∈ x.nodes) : x.table.get r.index = some r.node := by
  cases h : x.table.get r.index with
  | none => exact absurd rfl (((table_fold_none NodeRecord.node x.nodes _ r.index).mp h).2 r hr)
  | some n =>
    obtain ⟨q, hq, same, rfl⟩ := Image.table_some h
    rw [Image.record_unique hx hq hr same]

/-- The node table after a load: the record of each index (R24). -/
theorem Image.table_get (i : Index) : x.table.get i = (x.nodes.find? fun r => r.index = i).map NodeRecord.node := by
  cases h : x.nodes.find? fun r => r.index = i with
  | none =>
    refine (table_fold_none NodeRecord.node x.nodes _ i).mpr ⟨get_replicate_none i, fun r hr same => ?_⟩
    exact List.find?_eq_none.mp h r hr (by simpa using same)
  | some r =>
    have same : r.index = i := by simpa using List.find?_some h
    rw [← same]
    exact Image.table_of_mem hx (List.mem_of_find?_eq_some h)

end

/-- The snapshot table after a load: an empty snapshot for each node entry (R91). -/
theorem Image.snapshotTable_get (x : Image) (i : Index) : x.snapshotTable.get i = (x.table.get i).map fun _ => {} := by
  cases h : x.snapshotTable.get i with
  | none => rw [(x.snapshotTable_none_iff i).mp h, Option.map_none]
  | some y =>
    have fresh : y = {} := by
      obtain hy | ⟨r, -, -, rfl⟩ := table_fold_some (fun _ => ({} : Snapshot)) x.nodes _ i y h
      · rw [get_replicate_none] at hy
        cases hy
      · rfl
    have present : x.table.get i ≠ none := by
      rw [ne_eq, ← x.snapshotTable_none_iff, h]
      nofun
    obtain ⟨n, hn⟩ := Option.ne_none_iff_exists'.mp present
    rw [hn, fresh, Option.map_some]

end Sys2Proof.Machine
/-! SUPPORT. The end of a reset (R161): the due lists that the load of an image leaves (R89), and the first question of each line to its
arbiter. -/

namespace Sys2Proof.Machine

/-! ## The due lists -/

/-- The image has a NEW entry with a descriptor at this index on this line (R89). -/
def Image.duesAt (x : Image) (l : LineId) (i : Index) : Bool :=
  x.nodes.any fun r => r.index = i && r.config.line = l && !r.disabled && r.config.descriptor.isSome

/-- The due list that the entries at these indices leave on a line, in their order. -/
def Image.dueAmong (x : Image) (is : List Index) (l : LineId) : List DueEntry :=
  (is.filter (x.duesAt l)).map fun i => { index := i, kind := .poll, due := 0 }

theorem Image.dueOn_eq (x : Image) : x.dueOn = x.dueAmong allIndices := rfl

theorem Image.duesAt_iff {x : Image} (hx : x.inRange = true) {l : LineId} {i : Index} : x.duesAt l i = true ↔
    ∃ n, x.table.get i = some n ∧ n.config.line = l ∧ n.state = .new ∧ n.config.descriptor.isSome = true := by
  have new_iff (r : NodeRecord) : r.node.state = .new ↔ r.disabled = false := by cases h : r.disabled <;> simp [NodeRecord.node, h]
  simp only [Image.duesAt, List.any_eq_true, Bool.and_eq_true, decide_eq_true_eq, Bool.not_eq_true']
  constructor
  · rintro ⟨r, hr, ⟨⟨rfl, line⟩, enabled⟩, described⟩
    exact ⟨r.node, Image.table_of_mem hx hr, line, (new_iff r).mpr enabled, described⟩
  · rintro ⟨n, hn, line, new, described⟩
    obtain ⟨r, hr, same, rfl⟩ := Image.table_some hn
    exact ⟨r, hr, ⟨⟨same, line⟩, (new_iff r).mp new⟩, described⟩

/-- An entry of a loaded due list is a poll, due at once, of a record of the line with a descriptor (R89). -/
theorem Image.record_of_dueOn {x : Image} {l : LineId} {e : DueEntry} (h : e ∈ x.dueOn l) :
    ∃ r ∈ x.nodes, ∃ d, r.config.line = l ∧ r.config.descriptor = some d ∧ e = { index := r.index, kind := .poll, due := 0 } := by
  rw [Image.dueOn_eq, Image.dueAmong] at h
  obtain ⟨i, hi, rfl⟩ := List.mem_map.mp h
  have due := (List.mem_filter.mp hi).2
  simp only [Image.duesAt, List.any_eq_true, Bool.and_eq_true, decide_eq_true_eq] at due
  obtain ⟨r, hr, ⟨⟨rfl, line⟩, -⟩, described⟩ := due
  obtain ⟨d, hd⟩ := Option.isSome_iff_exists.mp described
  exact ⟨r, hr, d, line, hd, rfl⟩

/-- The due lists of the two lines refer to different indices. -/
theorem Image.dueOn_disjoint {x : Image} (hx : x.inRange = true) {k l : LineId} (h : k ≠ l) {d e : DueEntry} (hd : d ∈ x.dueOn k)
    (he : e ∈ x.dueOn l) : d.index ≠ e.index := by
  obtain ⟨q, hq, -, onK, -, rfl⟩ := Image.record_of_dueOn hd
  obtain ⟨r, hr, -, onL, -, rfl⟩ := Image.record_of_dueOn he
  intro same
  exact h (onK.symm.trans ((congrArg (·.config.line) (Image.record_unique hx hq hr same)).trans onL))

/-- The part with these due lists. -/
def State.withDue (s : State) (due : LineId → List DueEntry) : State :=
  { s with lineA := { s.lineA with dueList := due .a }, lineB := { s.lineB with dueList := due .b } }

theorem State.line_withDue (s : State) (due : LineId → List DueEntry) (l : LineId) :
    (s.withDue due).line l = { s.line l with dueList := due l } := by cases l <;> rfl

/-- An entry joins a list all of whose entries stay ahead of it at the tail (R76). -/
theorem joinDue_tail {due : List DueEntry} {e : DueEntry} (h : ∀ d ∈ due, e.staysAhead d = true) : joinDue due e = due ++ [e] := by
  rw [joinDue_eq, List.takeWhile_eq_self_iff.mpr h, List.dropWhile_eq_nil_iff.mpr h]

theorem State.makeDue_withDue (s : State) (due : LineId → List DueEntry) (l : LineId) (i : Index) :
    (s.withDue due).makeDue l i =
      s.withDue (Function.update due l (joinDue (due l) { index := i, kind := .poll, due := s.partTime })) := by
  cases l <;> rfl

/-- The entry at an index above all that have been looked at becomes due. -/
theorem State.makeDueIfNew_withDue {s : State} {x : Image} (hx : x.inRange = true) (nodes : s.nodes = x.table) (time : s.partTime = 0)
    {is : List Index} {i : Index} (above : ∀ j ∈ is, j ≤ i) :
    (s.withDue (x.dueAmong is)).makeDueIfNew i = s.withDue (x.dueAmong (is ++ [i])) := by
  have joins (l : LineId) : joinDue (x.dueAmong is l) { index := i, kind := .poll, due := s.partTime } =
      x.dueAmong is l ++ [{ index := i, kind := .poll, due := 0 }] := by
    rw [time]
    refine joinDue_tail fun d hd => ?_
    obtain ⟨j, hj, rfl⟩ := List.mem_map.mp hd
    simpa [DueEntry.staysAhead] using above j (List.mem_filter.mp hj).1
  have absent {l : LineId} (h : ¬ x.duesAt l i = true) : x.dueAmong (is ++ [i]) l = x.dueAmong is l := by
    simp [Image.dueAmong, h]
  have present {l : LineId} (h : x.duesAt l i = true) :
      x.dueAmong (is ++ [i]) l = x.dueAmong is l ++ [{ index := i, kind := .poll, due := 0 }] := by simp [Image.dueAmong, h]
  have node : (s.withDue (x.dueAmong is)).node i = x.table.get i := congrArg (·.get i) nodes
  simp only [Image.duesAt_iff hx] at absent present
  rw [State.makeDueIfNew, node]
  cases h : x.table.get i with
  | none => exact congrArg s.withDue (funext fun l => (absent (by simp [h])).symm)
  | some n =>
    by_cases new : n.state = .new ∧ n.config.descriptor.isSome = true
    · refine (if_pos new).trans ((s.makeDue_withDue _ _ i).trans (congrArg s.withDue (funext fun l => ?_)))
      by_cases own : l = n.config.line
      · rw [own, Function.update_self, joins, present ⟨n, h, rfl, new⟩]
      · rw [Function.update_of_ne own, absent]
        rintro ⟨m, hm, line, -⟩
        cases h.symm.trans hm
        exact own line.symm
    · refine (if_neg new).trans (congrArg s.withDue (funext fun l => (absent ?_).symm))
      rintro ⟨m, hm, -, due⟩
      cases h.symm.trans hm
      exact new due

/-- The entries at ascending indices become due one behind the other (R89). -/
theorem State.makeAllDue_withDue {s : State} {x : Image} (hx : x.inRange = true) (nodes : s.nodes = x.table) (time : s.partTime = 0)
    {is : List Index} (ascending : is.Pairwise (· ≤ ·)) (empty : s.withDue (fun _ => []) = s) :
    is.foldl State.makeDueIfNew s = s.withDue (x.dueAmong is) := by
  induction is using List.reverseRecOn with
  | nil => exact empty.symm
  | append_singleton is i ih =>
    obtain ⟨ascending, -, above⟩ := List.pairwise_append.mp ascending
    rw [List.foldl_append, ih ascending]
    exact State.makeDueIfNew_withDue hx nodes time fun j hj => above j hj i List.mem_cons_self

/-- The NEW entries of the loaded image become due in index order (R89). -/
theorem State.loaded_makeAllDue (s : State) (cause : ResetCause) (strap : BitVec 2) :
    allIndices.foldl State.makeDueIfNew (s.loaded cause strap) = (s.loaded cause strap).withDue s.loadedImage.dueOn :=
  State.makeAllDue_withDue s.loadedImage_inRange rfl rfl (List.pairwise_le_finRange 32) rfl

end Sys2Proof.Machine
/-! SUPPORT. The first question of each line to its arbiter after a reset (R82, R89, R161). -/

namespace Sys2Proof.Machine

/-! ## What the first starts leave alone -/

/-- The part without its node table and its lines. -/
def State.aside (s : State) : State :=
  { s with nodes := State.reset.nodes, lineA := State.reset.lineA, lineB := State.reset.lineB }

theorem State.aside_setLine (s : State) (l : LineId) (x : Line) : (s.setLine l x).aside = s.aside := by cases l <;> rfl

/-- A part is what it is aside from its nodes and lines, with its nodes and lines; its snapshots may be written out too. -/
theorem State.eq_of_aside {s t : State} (h : t.aside = s.aside) :
    t = { s with nodes := t.nodes, snapshots := t.snapshots, lineA := t.lineA, lineB := t.lineB } :=
  congrArg (fun u : State => { u with nodes := t.nodes, snapshots := t.snapshots, lineA := t.lineA, lineB := t.lineB }) h

theorem State.snapshot_of_aside {s t : State} (h : t.aside = s.aside) (i : Index) : t.snapshot i = s.snapshot i := by
  show t.aside.snapshot i = s.aside.snapshot i
  rw [h]

/-! ## The first start on a line -/

/-- The first attempt of a poll, due at once, of the node of a record just loaded (R26, R83). -/
def NodeRecord.firstPoll (r : NodeRecord) (d : PollDescriptor) : Transaction :=
  { kind := .poll r.index 0, target := r.config.address, operation := .read d.start d.count, sequence := 0
    allowed := 1 + r.config.retries.toNat, made := 1, timeout := some r.config.timeout, last := none }

/-- The node of a record just loaded, in its first poll. -/
def NodeRecord.polled (r : NodeRecord) : Node := { r.node with nextSequence := 1, mark := .attached }

/-- A line right after a load asks its arbiter: an IDLE one with due entries starts the poll of the first. -/
structure State.FirstStart (x : Image) (l : LineId) (u t : State) : Prop where
  aside : t.aside = u.aside
  other : ∀ k, k ≠ l → t.line k = u.line k
  unused : ∀ i, ((u.line l).state = .idle → ∀ e rest, x.dueOn l = e :: rest → e.index ≠ i) → t.node i = u.node i
  present : ∀ i, t.node i = none ↔ u.node i = none
  rests : (u.line l).state ≠ .idle ∨ x.dueOn l = [] → t.line l = u.line l
  starts : (u.line l).state = .idle → ∀ e rest, x.dueOn l = e :: rest → ∃ r d, r ∈ x.nodes ∧ r.index = e.index ∧
    r.config.descriptor = some d ∧ t.node e.index = some r.polled ∧
    t.line l = { u.line l with dueList := rest, streak := 0 }.startAttempt (r.firstPoll d)

section
variable {x : Image} {l : LineId} {u : State}

theorem State.FirstStart.rest (h : (u.line l).state ≠ .idle ∨ x.dueOn l = []) : State.FirstStart x l u u where
  aside := rfl
  other _ _ := rfl
  unused _ _ := rfl
  present _ := .rfl
  rests _ := rfl
  starts idle _ _ due := absurd due (by simp [h.resolve_left (not_not.mpr idle)])

theorem State.FirstStart.start {r : NodeRecord} {d : PollDescriptor} {rest : List DueEntry} (idle : (u.line l).state = .idle)
    (hr : r ∈ x.nodes) (hd : r.config.descriptor = some d)
    (due : x.dueOn l = { index := r.index, kind := .poll, due := 0 } :: rest) (node : u.node r.index = some r.node) :
    State.FirstStart x l u ((u.setNode r.index (some r.polled)).setLine l
      ({ u.line l with dueList := rest, streak := 0 }.startAttempt (r.firstPoll d))) where
  aside := State.aside_setLine _ _ _
  other k hk := (State.line_setLine_other _ _ hk).trans (State.line_setNode _ _ _ _)
  unused i free := (State.node_setLine _ _ _ _).trans (State.node_setNode_other _ _ (free idle _ _ due).symm)
  present i := by
    rw [State.node_setLine, State.node_setNode]
    split
    · next same => simp [same, node]
    · rfl
  rests h := by simp [idle, due] at h
  starts _ e rest' due' := by
    cases due.symm.trans due'
    exact ⟨r, d, hr, rfl, hd, (State.node_setLine _ _ _ _).trans (State.node_setNode_same _ _ _), State.line_setLine_same _ _ _⟩

/-- What the first question to the arbiter does on a line with no demand and no scan (R82). -/
theorem State.askArbiter_firstStart (queue : (u.line l).demandQueue = []) (scan : (u.line l).scan = none)
    (due : (u.line l).dueList = x.dueOn l) (nodes : ∀ r ∈ x.nodes, r.config.line = l → u.node r.index = some r.node) :
    State.FirstStart x l u (u.askArbiter l) := by
  by_cases idle : (u.line l).state = .idle
  · rw [State.askArbiter_of_idle idle]
    cases h : x.dueOn l with
    | nil =>
      rw [State.choose_nothing queue (due.trans h) scan]
      exact .rest (.inr h)
    | cons e rest =>
      obtain ⟨r, hr, d, line, hd, rfl⟩ := Image.record_of_dueOn (h ▸ List.mem_cons_self : e ∈ x.dueOn l)
      have node := nodes r hr line
      rw [State.choose_due (due.trans h) (.inl queue), State.startDue_poll node rfl hd, State.startOnNode_eq]
      exact .start idle hr hd h node
  · rw [show u.askArbiter l = u from if_neg idle]
    exact .rest (.inl idle)

end

/-! ## The part comes out of reset -/

/-- The settings of a line in an image. -/
def Image.settings (x : Image) : LineId → LineSettings
  | .a => x.settingsA
  | .b => x.settingsB

/-- The enabled flag of a line in an image. -/
def Image.enabled (x : Image) : LineId → Bool
  | .a => x.enabledA
  | .b => x.enabledB

theorem State.line_loaded (s : State) (cause : ResetCause) (strap : BitVec 2) (l : LineId) :
    (s.loaded cause strap).line l = Line.afterReset (s.loadedImage.settings l) (s.loadedImage.enabled l) (s.line l).pinMark := by
  cases l <;> rfl

/-- A line with its loaded due list, before it asks its arbiter (R89, R143). -/
def State.dueLine (s : State) (l : LineId) : Line :=
  { Line.afterReset (s.loadedImage.settings l) (s.loadedImage.enabled l) (s.line l).pinMark with dueList := s.loadedImage.dueOn l }

theorem State.dueLine_idle_iff (s : State) (l : LineId) : (s.dueLine l).state = .idle ↔ s.loadedImage.enabled l = true := by
  cases h : s.loadedImage.enabled l <;> simp [State.dueLine, Line.afterReset, h]

/-- The part right before the lines ask their arbiters. -/
def State.dueLoaded (s : State) (cause : ResetCause) (strap : BitVec 2) : State :=
  (s.loaded cause strap).withDue s.loadedImage.dueOn

theorem State.line_dueLoaded (s : State) (cause : ResetCause) (strap : BitVec 2) (l : LineId) :
    (s.dueLoaded cause strap).line l = s.dueLine l := by
  rw [State.dueLoaded, State.line_withDue, State.line_loaded, State.dueLine]

theorem State.node_dueLoaded (s : State) (cause : ResetCause) (strap : BitVec 2) (i : Index) :
    (s.dueLoaded cause strap).node i = s.loadedImage.table.get i := rfl

/-- A line with its loaded due list asks its arbiter. -/
theorem State.askArbiter_dueLoaded {s u : State} {l : LineId} (line : u.line l = s.dueLine l)
    (nodes : ∀ r ∈ s.loadedImage.nodes, r.config.line = l → u.node r.index = some r.node) :
    State.FirstStart s.loadedImage l u (u.askArbiter l) :=
  State.askArbiter_firstStart (by rw [line]; rfl) (by rw [line]; rfl) (by rw [line]; rfl) nodes

section
variable (s : State) (cause : ResetCause) (strap : BitVec 2)

/-- Line A asks first, then Line B (R161). -/
theorem State.comeOut_firstStarts : ∃ u, State.FirstStart s.loadedImage .a (s.dueLoaded cause strap) u ∧
    State.FirstStart s.loadedImage .b u (s.comeOut cause strap) := by
  have record (r) (hr : r ∈ s.loadedImage.nodes) : (s.dueLoaded cause strap).node r.index = some r.node :=
    Image.table_of_mem s.loadedImage_inRange hr
  have first := State.askArbiter_dueLoaded (s.line_dueLoaded cause strap .a) fun r hr _ => record r hr
  refine ⟨_, first, ?_⟩
  rw [State.comeOut, State.loaded_makeAllDue]
  refine State.askArbiter_dueLoaded ((first.other .b nofun).trans (s.line_dueLoaded cause strap .b)) fun r hr line => ?_
  rw [← record r hr]
  refine first.unused r.index fun _ e rest due same => ?_
  obtain ⟨q, hq, -, onA, -, rfl⟩ := Image.record_of_dueOn (due ▸ List.mem_cons_self : e ∈ s.loadedImage.dueOn .a)
  cases Image.record_unique s.loadedImage_inRange hq hr same
  cases onA.symm.trans line

theorem State.comeOut_aside : (s.comeOut cause strap).aside = (s.loaded cause strap).aside := by
  obtain ⟨u, first, second⟩ := s.comeOut_firstStarts cause strap
  exact second.aside.trans (first.aside.trans rfl)

/-- The node of an index whose poll has not started (R24). -/
theorem State.comeOut_node {i : Index} (unused : ∀ l, s.loadedImage.enabled l = true →
    ∀ e rest, s.loadedImage.dueOn l = e :: rest → e.index ≠ i) :
    (s.comeOut cause strap).node i = s.loadedImage.table.get i := by
  obtain ⟨u, first, second⟩ := s.comeOut_firstStarts cause strap
  have lineB : u.line .b = s.dueLine .b := (first.other .b nofun).trans (s.line_dueLoaded cause strap .b)
  rw [second.unused i fun idle => unused .b ((s.dueLine_idle_iff .b).mp (lineB ▸ idle)),
    first.unused i fun idle => unused .a ((s.dueLine_idle_iff .a).mp (s.line_dueLoaded cause strap .a ▸ idle)), State.node_dueLoaded]

/-- Each entry put into use has an empty snapshot (R91). -/
theorem State.comeOut_snapshot (i : Index) :
    (s.comeOut cause strap).snapshot i = ((s.comeOut cause strap).node i).map fun _ => {} := by
  obtain ⟨u, first, second⟩ := s.comeOut_firstStarts cause strap
  have none_iff : (s.comeOut cause strap).node i = none ↔ s.loadedImage.table.get i = none :=
    (second.present i).trans (first.present i)
  have loaded : (s.comeOut cause strap).snapshot i = s.loadedImage.snapshotTable.get i :=
    State.snapshot_of_aside (s.comeOut_aside cause strap) i
  rw [loaded, Image.snapshotTable_get]
  cases h : s.loadedImage.table.get i with
  | none => rw [none_iff.mpr h]
  | some n =>
    obtain ⟨m, hm⟩ := Option.ne_none_iff_exists'.mp fun absent => absurd (none_iff.mp absent) (by simp [h])
    rw [hm, Option.map_some, Option.map_some]

/-- Each line's own first start, and what it leaves of the line and of the node it polls at the end of the reset. -/
theorem State.comeOut_firstStart (l : LineId) : ∃ v w, State.FirstStart s.loadedImage l v w ∧ v.line l = s.dueLine l ∧
    (s.comeOut cause strap).line l = w.line l ∧
    ∀ e ∈ s.loadedImage.dueOn l, (s.comeOut cause strap).node e.index = w.node e.index := by
  obtain ⟨u, first, second⟩ := s.comeOut_firstStarts cause strap
  cases l with
  | a =>
    refine ⟨_, u, first, s.line_dueLoaded cause strap .a, second.other .a nofun, fun e he => ?_⟩
    exact second.unused e.index fun _ d rest due =>
      Image.dueOn_disjoint s.loadedImage_inRange (nofun : LineId.b ≠ .a) (due ▸ List.mem_cons_self) he
  | b => exact ⟨u, _, second, (first.other .b nofun).trans (s.line_dueLoaded cause strap .b), rfl, fun _ _ => rfl⟩

/-- A line with what its image says of it (R47, R143). -/
def State.freshLine (s : State) (l : LineId) : Line :=
  { settings := s.loadedImage.settings l, enabled := s.loadedImage.enabled l, pinMark := (s.line l).pinMark }

/-- The line at the end of the reset: OFF with its due list, IDLE with none, or in the poll of its first due entry (R89). -/
theorem State.comeOut_line_cases (l : LineId) :
    (s.loadedImage.enabled l = false → (s.comeOut cause strap).line l =
      { s.freshLine l with state := .off, dueList := s.loadedImage.dueOn l }) ∧
    (s.loadedImage.enabled l = true → s.loadedImage.dueOn l = [] →
      (s.comeOut cause strap).line l = { s.freshLine l with state := .idle }) ∧
    (s.loadedImage.enabled l = true → ∀ e rest, s.loadedImage.dueOn l = e :: rest → ∃ r d,
      r ∈ s.loadedImage.nodes ∧ r.index = e.index ∧ r.config.descriptor = some d ∧
      (s.comeOut cause strap).node e.index = some r.polled ∧
      (s.comeOut cause strap).line l = { s.freshLine l with dueList := rest }.startAttempt (r.firstPoll d)) := by
  obtain ⟨v, w, start, before, after, node⟩ := s.comeOut_firstStart cause strap l
  have idle_iff := s.dueLine_idle_iff l
  rw [← before] at idle_iff
  rw [after]
  refine ⟨fun off => ?_, fun on empty => ?_, fun on e rest due => ?_⟩
  · rw [start.rests (.inl (by simp [idle_iff, off])), before]
    simp [State.dueLine, State.freshLine, Line.afterReset, off]
  · rw [start.rests (.inr empty), before]
    simp [State.dueLine, State.freshLine, Line.afterReset, on, empty]
  · obtain ⟨r, d, hr, same, hd, polled, started⟩ := start.starts (idle_iff.mpr on) e rest due
    refine ⟨r, d, hr, same, hd, ?_, ?_⟩
    · rw [node e (due ▸ List.mem_cons_self), polled]
    · rw [started, before]
      rfl

end

/-- Settles O8: the load of the newest image, its due lists, and the first start on each line. -/
theorem resetCompletes : Obligations.ResetCompletes := by
  refine ⟨fun x => ?valid, fun s => ⟨fun newest h above => ?highest, fun h0 h1 equal => ?equal, fun invalid => ?absent⟩,
    fun s cause adr1 adr0 hs => ⟨_, exec_resetComplete_of_resetting hs adr1 adr0, ?frame,
      fun i unused => ?nodes, fun i => s.comeOut_snapshot _ _ i, fun l => ?line⟩⟩
  case valid => simp [StoreSlot.valid_iff, Image.inRange, and_assoc]
  case highest =>
    rw [State.loadedImage_eq, State.newestGeneration_eq, State.newest_of_highest h above]
    exact ⟨rfl, rfl⟩
  case equal =>
    rw [State.loadedImage_eq, State.newest_of_equal h0 h1 equal]
    rfl
  case absent =>
    rw [State.loadedImage_eq, State.newestGeneration_eq, State.validSlots_of_none fun id => Bool.eq_false_iff.mp (invalid id)]
    exact ⟨rfl, rfl⟩
  case frame => exact State.eq_of_aside (s.comeOut_aside cause (BitVec.ofBool adr1 ++ BitVec.ofBool adr0))
  case nodes =>
    have free (l : LineId) : s.loadedImage.enabled l = true → ∀ e rest, s.loadedImage.dueOn l = e :: rest → e.index ≠ i := by
      cases l
      · exact unused .a
      · exact unused .b
    rw [s.comeOut_node _ _ free, Image.table_get s.loadedImage_inRange]
    rfl
  case line =>
    obtain ⟨off, idle, starts⟩ := s.comeOut_line_cases cause (BitVec.ofBool adr1 ++ BitVec.ofBool adr0) l
    cases l <;> refine ⟨off, idle, fun on e rest due => ?_⟩ <;>
      obtain ⟨r, d, hr, same, hd, polled, started⟩ := starts on e rest due <;>
      exact ⟨r, d, hr, same, hd, polled, same ▸ started⟩

end Sys2Proof.Machine
/-! SUPPORT. The RESET request (R160). -/

namespace Sys2Proof.Machine

theorem exec_resetRequest_of_empty {s : State} {id : SlotId} {rq : Request} (h : s.ready (some .reset) id rq) (empty : rq.body = []) :
    exec .resetRequest s = .next ((s.accept id rq).beginReset .request) := by
  show Host.Outcome.next (s.take _ _) = _
  rw [State.take_of_ready h, (emptyBody_eq_some_iff _).mpr empty]

/-- A reset that begins right after its request has been taken leaves the request's reservation in the total; the end of the reset drops
it (R153, R161). -/
theorem State.beginReset_accept (s : State) (id : SlotId) (rq : Request) (cause : ResetCause) :
    (s.accept id rq).beginReset cause = { s with
      resetting := some cause, slot0 := .free, slot1 := .free, slotOrder := [], link := .none, storeJob := none
      linkAck := false, linkByte := 0xFF, reserved := s.reserved + rq.reservation
      lineA := s.lineA.underReset, lineB := s.lineB.underReset } := by cases id <;> rfl

/-- Settles O6: the taken request begins a reset, whose end is that of any reset. -/
theorem resetRequestStartsReset : Obligations.ResetRequestStartsReset := by
  intro s id rq ready
  have hkind := ready.2.2.1
  have reservation : rq.reservation = 6 := reservation_of_kind hkind
  refine ⟨fun empty => ⟨_, exec_resetRequest_of_empty ready empty, ?frame, State.attention_of_resetting rfl, fun l => ?line,
    fun adr1 adr0 => ?ends⟩, fun full => ?refused⟩
  case frame => rw [State.beginReset_accept, reservation]
  case line =>
    rw [State.line_beginReset, State.line_accept, Line.underReset_eq]
  case ends =>
    obtain ⟨u, completes, frame, -⟩ := resetCompletes.2.2 ((s.accept id rq).beginReset .request) .request adr1 adr0 rfl
    have generation := congrArg State.generation frame
    exact ⟨u, completes, congrArg State.reserved frame, (congrArg State.outbound frame).trans (by rw [generation])⟩
  case refused =>
    have bad : RequestKind.bodyGood .reset rq.body = false := emptyBody_isSome_of_ne full
    obtain ⟨owner, runs, refuses⟩ := exec_requestRow (c := .resetRequest) rfl
    rw [runs, State.take_of_ready ready, refuses _ rfl rq _ bad, s.accept_answer_of_kind id hkind _ (data := []) reservation.symm]
    rfl

end Sys2Proof.Machine
/-! SUPPORT. The queue of commands is the model's own field (log entry 3), and no operation of the part reads or writes it: every read
gives the same on a state with another queue, and every operation commutes with the replacement of the queue. From this it follows that
an operation leaves the queue as it was. -/

namespace Sys2Proof.Machine

/-- The state with its queue of commands replaced. -/
@[simps] def State.withQueue (s : State) (q : List Instr) : State := { s with pending := q }

section
variable (s : State) (q : List Instr)

/-- A choice between two states, and then another queue. -/
@[simp] theorem State.withQueue_ite (p : Prop) [Decidable p] (a b : State) :
    (if p then a else b).withQueue q = if p then a.withQueue q else b.withQueue q :=
  apply_ite (State.withQueue · q) p a b

/-- Operations that commute with the replacement of the queue do so in a row. -/
theorem State.foldl_withQueue {α : Type} {f : State → α → State} (h : ∀ s q a, f (s.withQueue q) a = (f s a).withQueue q) (xs : List α) :
    xs.foldl f (s.withQueue q) = (xs.foldl f s).withQueue q :=
  List.foldl_hom (State.withQueue · q) fun s a => h s q a

/-! ## Reads -/

@[simp] theorem State.line_withQueue (l : LineId) : (s.withQueue q).line l = s.line l := by cases l <;> rfl
@[simp] theorem State.node_withQueue (i : Index) : (s.withQueue q).node i = s.node i := rfl
@[simp] theorem State.liveNode_withQueue (i : Index) : (s.withQueue q).liveNode i = s.liveNode i := rfl
@[simp] theorem State.snapshot_withQueue (i : Index) : (s.withQueue q).snapshot i = s.snapshot i := rfl
@[simp] theorem State.slot_withQueue (id : SlotId) : (s.withQueue q).slot id = s.slot id := by cases id <;> rfl
@[simp] theorem State.storeSlot_withQueue (id : SlotId) : (s.withQueue q).storeSlot id = s.storeSlot id := by cases id <;> rfl
@[simp] theorem State.freeSpace_withQueue : (s.withQueue q).freeSpace = s.freeSpace := rfl
@[simp] theorem State.buildNotice_withQueue (sub : Subject) : (s.withQueue q).buildNotice sub = s.buildNotice sub := by cases sub <;> rfl
@[simp] theorem State.oldestRequest_withQueue : (s.withQueue q).oldestRequest = s.oldestRequest := rfl
@[simp] theorem State.targetAddress_withQueue : (s.withQueue q).targetAddress = s.targetAddress := rfl
@[simp] theorem State.freeSlot_withQueue : (s.withQueue q).freeSlot = s.freeSlot := rfl
@[simp] theorem State.freeIndex_withQueue : (s.withQueue q).freeIndex = s.freeIndex := rfl
@[simp] theorem State.addressHeld_withQueue (l : LineId) : (s.withQueue q).addressHeld l = s.addressHeld l := rfl
@[simp] theorem State.heldByAnother_withQueue (i : Index) (l : LineId) (a : Byte) :
    (s.withQueue q).heldByAnother i l a = s.heldByAnother i l a := rfl
@[simp] theorem State.attached_withQueue (i : Index) : (s.withQueue q).attached i = s.attached i := rfl
@[simp] theorem State.validSlots_withQueue : (s.withQueue q).validSlots = s.validSlots := rfl
@[simp] theorem State.statusData_withQueue : (s.withQueue q).statusData = s.statusData := rfl

/-! ## Places of the state -/

@[simp] theorem State.setLine_withQueue (l : LineId) (x : Line) : (s.withQueue q).setLine l x = (s.setLine l x).withQueue q := by
  cases l <;> rfl
@[simp] theorem State.updLine_withQueue (l : LineId) (f : Line → Line) :
    (s.withQueue q).updLine l f = (s.updLine l f).withQueue q := by
  rw [State.updLine, State.line_withQueue, State.setLine_withQueue, State.updLine]
@[simp] theorem State.setNode_withQueue (i : Index) (n : Option Node) : (s.withQueue q).setNode i n = (s.setNode i n).withQueue q := rfl
@[simp] theorem State.setSnapshot_withQueue (i : Index) (x : Option Snapshot) :
    (s.withQueue q).setSnapshot i x = (s.setSnapshot i x).withQueue q := rfl
@[simp] theorem State.setSlot_withQueue (id : SlotId) (x : RequestSlot) : (s.withQueue q).setSlot id x = (s.setSlot id x).withQueue q := by
  cases id <;> rfl
@[simp] theorem State.setStoreSlot_withQueue (id : SlotId) (x : StoreSlot) :
    (s.withQueue q).setStoreSlot id x = (s.setStoreSlot id x).withQueue q := by cases id <;> rfl
@[simp] theorem State.addTag_withQueue (t : Byte) : (s.withQueue q).addTag t = (s.addTag t).withQueue q := rfl
@[simp] theorem State.dropTag_withQueue (t : Byte) : (s.withQueue q).dropTag t = (s.dropTag t).withQueue q := rfl
@[simp] theorem State.reportChange_withQueue : (s.withQueue q).reportChange = s.reportChange.withQueue q := rfl
@[simp] theorem State.accept_withQueue (id : SlotId) (rq : Request) : (s.withQueue q).accept id rq = (s.accept id rq).withQueue q := by
  cases id <;> rfl
@[simp] theorem State.beginPhase_withQueue : (s.withQueue q).beginPhase = s.beginPhase.withQueue q := rfl
@[simp] theorem State.acknowledge_withQueue (ack : Bool) : (s.withQueue q).acknowledge ack = (s.acknowledge ack).withQueue q := rfl

/-! ## Notices and replies -/

@[simp] theorem State.admitNotice_withQueue (sub : Subject) : (s.withQueue q).admitNotice sub = (s.admitNotice sub).withQueue q := by
  simp only [State.admitNotice, State.buildNotice_withQueue]
  split <;> rfl

@[simp] theorem State.mark_withQueue (sub : Subject) : (s.withQueue q).mark sub = (s.mark sub).withQueue q := by
  simp only [State.mark, State.withQueue_ite, State.admitNotice_withQueue]
  rfl

theorem walkFrom_withQueue (entries passed : List Subject) (s : State) (q : List Instr) :
    walkFrom entries passed (s.withQueue q) = (walkFrom entries passed s).withQueue q := by
  induction entries generalizing passed s with
  | nil => rfl
  | cons sub rest ih =>
    simp only [walkFrom, State.withQueue_ite, State.admitNotice_withQueue, ih]
    rfl

@[simp] theorem State.walk_withQueue : (s.withQueue q).walk = s.walk.withQueue q := walkFrom_withQueue ..

@[simp] theorem State.withdraw_withQueue (i : Index) : (s.withQueue q).withdraw i = (s.withdraw i).withQueue q :=
  State.walk_withQueue { s with notices := s.notices.filter fun sub => sub ≠ Subject.nodeState i && sub ≠ Subject.change i } q

@[simp] theorem State.rejectFrame_withQueue : (s.withQueue q).rejectFrame = s.rejectFrame.withQueue q :=
  State.mark_withQueue { s with linkErrors := countLinkError s.linkErrors } q _

@[simp] theorem State.queueReply_withQueue (reservation : Nat) (r : Reply) :
    (s.withQueue q).queueReply reservation r = (s.queueReply reservation r).withQueue q := by
  simp only [State.queueReply, State.withQueue_ite, ← State.walk_withQueue]
  rfl

@[simp] theorem State.answer_withQueue (rq : Request) (status : Status) (data : List Byte) :
    (s.withQueue q).answer rq status data = (s.answer rq status data).withQueue q := State.queueReply_withQueue ..

@[simp] theorem State.replyEntry_withQueue (l : LineId) (status : Status) (e : DemandEntry) :
    (s.withQueue q).replyEntry l status e = (s.replyEntry l status e).withQueue q := by simp [State.replyEntry]

/-! ## The node table -/

@[simp] theorem State.makeDue_withQueue (l : LineId) (i : Index) : (s.withQueue q).makeDue l i = (s.makeDue l i).withQueue q :=
  State.updLine_withQueue ..

@[simp] theorem State.armRecovery_withQueue (l : LineId) (i : Index) :
    (s.withQueue q).armRecovery l i = (s.armRecovery l i).withQueue q := State.updLine_withQueue ..

@[simp] theorem State.purge_withQueue (l : LineId) (i : Index) (status : Status) :
    (s.withQueue q).purge l i status = (s.purge l i status).withQueue q := by
  simp only [State.purge, State.line_withQueue, State.updLine_withQueue]
  exact State.foldl_withQueue _ q (fun s q e => s.replyEntry_withQueue q l status e) _

@[simp] theorem State.flush_withQueue (l : LineId) (status : Status) :
    (s.withQueue q).flush l status = (s.flush l status).withQueue q := by
  simp only [State.flush, State.line_withQueue, State.updLine_withQueue]
  exact State.foldl_withQueue _ q (fun s q e => s.replyEntry_withQueue q l status e) _

@[simp] theorem State.rearmPoll_withQueue (l : LineId) (i : Index) (due : Word) :
    (s.withQueue q).rearmPoll l i due = (s.rearmPoll l i due).withQueue q := by
  simp only [State.rearmPoll, State.node_withQueue, State.withQueue_partTime]
  split
  case h_1 => rfl
  case h_2 n _ => simp

@[simp] theorem State.putBackPoll_withQueue (l : LineId) (i : Index) (due : Word) :
    (s.withQueue q).putBackPoll l i due = (s.putBackPoll l i due).withQueue q := State.updLine_withQueue ..

@[simp] theorem State.goOffline_withQueue (l : LineId) (i : Index) (n : Node) :
    (s.withQueue q).goOffline l i n = (s.goOffline l i n).withQueue q := by simp [State.goOffline]

@[simp] theorem State.applyService_withQueue (l : LineId) (i : Index) (n : Node) (o : FieldOutcome) :
    (s.withQueue q).applyService l i n o = (s.applyService l i n o).withQueue q := by
  cases o <;> simp [State.applyService]

@[simp] theorem State.comeBack_withQueue (l : LineId) (i : Index) (n : Node) :
    (s.withQueue q).comeBack l i n = (s.comeBack l i n).withQueue q := by simp [State.comeBack]

@[simp] theorem State.applyProbe_withQueue (l : LineId) (i : Index) (n : Node) (o : FieldOutcome) :
    (s.withQueue q).applyProbe l i n o = (s.applyProbe l i n o).withQueue q := by
  cases o <;> simp [State.applyProbe]

@[simp] theorem State.applyOutcome_withQueue (l : LineId) (i : Index) (probe : Bool) (o : FieldOutcome) :
    (s.withQueue q).applyOutcome l i probe o = (s.applyOutcome l i probe o).withQueue q := by
  simp only [State.applyOutcome, State.node_withQueue]
  split
  case h_1 => rfl
  case h_2 n _ => cases n.mark <;> simp

@[simp] theorem State.countAttempt_withQueue (i : Index) (o : FieldOutcome) :
    (s.withQueue q).countAttempt i o = (s.countAttempt i o).withQueue q := by
  simp only [State.countAttempt, State.node_withQueue]
  split
  case h_1 => rfl
  case h_2 n _ => cases o <;> simp

@[simp] theorem State.storeSnapshot_withQueue (i : Index) (payload : List Byte) :
    (s.withQueue q).storeSnapshot i payload = (s.storeSnapshot i payload).withQueue q := by simp [State.storeSnapshot]

/-! ## The scheduler -/

@[simp] theorem State.endScan_withQueue (l : LineId) (status : Status) :
    (s.withQueue q).endScan l status = (s.endScan l status).withQueue q := by
  simp only [State.endScan, State.line_withQueue]
  split <;> simp

@[simp] theorem State.scanResult_withQueue (l : LineId) (address : Byte) (o : FieldOutcome) :
    (s.withQueue q).scanResult l address o = (s.scanResult l address o).withQueue q := by
  simp only [State.scanResult, State.line_withQueue]
  split
  case h_1 => rfl
  case h_2 j _ => cases (j.record address o).ending <;> simp

@[simp] theorem State.startOnNode_withQueue (l : LineId) (i : Index) (n : Node) (kind : TransactionKind) (op : Operation) (allowed : Nat)
    (leave : Line → Line) : (s.withQueue q).startOnNode l i n kind op allowed leave =
      (s.startOnNode l i n kind op allowed leave).withQueue q := by simp [State.startOnNode]

@[simp] theorem State.startOnLine_withQueue (l : LineId) (kind : TransactionKind) (target : Byte) (op : Operation) (timeout : Option Byte)
    (leave : Line → Line) : (s.withQueue q).startOnLine l kind target op timeout leave =
      (s.startOnLine l kind target op timeout leave).withQueue q := State.updLine_withQueue ..

@[simp] theorem State.startDemand_withQueue (l : LineId) (e : DemandEntry) (rest : List DemandEntry) :
    (s.withQueue q).startDemand l e rest = (s.startDemand l e rest).withQueue q := by
  simp only [State.startDemand, State.node_withQueue]
  split
  case h_1 => simp
  case h_2 i _ => cases s.node i <;> simp

@[simp] theorem State.startDue_withQueue (l : LineId) (e : DueEntry) (rest : List DueEntry) :
    (s.withQueue q).startDue l e rest = (s.startDue l e rest).withQueue q := by
  simp only [State.startDue, State.node_withQueue]
  split
  case h_1 => rfl
  case h_2 n _ =>
    cases e.kind with
    | recovery => simp
    | poll => cases n.config.descriptor <;> simp

@[simp] theorem State.startScanProbe_withQueue (l : LineId) (j : ScanJob) :
    (s.withQueue q).startScanProbe l j = (s.startScanProbe l j).withQueue q := by simp [State.startScanProbe]

@[simp] theorem State.choose_withQueue (l : LineId) : (s.withQueue q).choose l = (s.choose l).withQueue q := by
  simp only [State.choose, State.line_withQueue]
  split <;> simp

@[simp] theorem State.askArbiter_withQueue (l : LineId) : (s.withQueue q).askArbiter l = (s.askArbiter l).withQueue q := by
  simp [State.askArbiter]

@[simp] theorem State.makeDueNow_withQueue (l : LineId) (i : Index) :
    (s.withQueue q).makeDueNow l i = (s.makeDueNow l i).withQueue q := by simp [State.makeDueNow]

@[simp] theorem State.timerExpires_withQueue (l : LineId) (i : Index) (kind : DueKind) (due : Word) :
    (s.withQueue q).timerExpires l i kind due = (s.timerExpires l i kind due).withQueue q := by simp [State.timerExpires]

/-! ## The Line Engine -/

@[simp] theorem State.afterPoll_withQueue (l : LineId) (i : Index) (due : Word) (o : FieldOutcome) :
    (s.withQueue q).afterPoll l i due o = (s.afterPoll l i due o).withQueue q := by
  cases o <;> simp [State.afterPoll]

@[simp] theorem State.deliver_withQueue (l : LineId) (t : Transaction) (o : FieldOutcome) :
    (s.withQueue q).deliver l t o = (s.deliver l t o).withQueue q := by
  unfold State.deliver
  cases t.kind <;> simp

@[simp] theorem State.endAttempt_withQueue (l : LineId) (o : FieldOutcome) (kind : GuardKind) :
    (s.withQueue q).endAttempt l o kind = (s.endAttempt l o kind).withQueue q := by
  simp only [State.endAttempt, State.line_withQueue]
  split
  case h_1 => rfl
  case h_2 t _ => cases t.kind.node <;> simp

@[simp] theorem State.endTransaction_withQueue (l : LineId) (o : FieldOutcome) :
    (s.withQueue q).endTransaction l o = (s.endTransaction l o).withQueue q := by
  simp only [State.endTransaction, State.line_withQueue]
  split <;> simp

@[simp] theorem State.enterFault_withQueue (l : LineId) (cause : FaultCause) :
    (s.withQueue q).enterFault l cause = (s.enterFault l cause).withQueue q := by simp [State.enterFault]

@[simp] theorem State.enterOff_withQueue (l : LineId) : (s.withQueue q).enterOff l = (s.enterOff l).withQueue q := by
  simp [State.enterOff]

@[simp] theorem State.echoFails_withQueue (l : LineId) : (s.withQueue q).echoFails l = (s.echoFails l).withQueue q := by
  simp [State.echoFails]

@[simp] theorem State.sendingEnds_withQueue (l : LineId) : (s.withQueue q).sendingEnds l = (s.sendingEnds l).withQueue q := by
  simp only [State.sendingEnds, State.line_withQueue]
  cases (s.line l).transaction <;> simp

@[simp] theorem State.takeEcho_withQueue (l : LineId) (begun : Nat) (data : Byte) (mark good : Bool) :
    (s.withQueue q).takeEcho l begun data mark good = (s.takeEcho l begun data mark good).withQueue q := by simp [State.takeEcho]

@[simp] theorem State.countLine_withQueue (l : LineId) (f : LineCounters → LineCounters) :
    (s.withQueue q).countLine l f = (s.countLine l f).withQueue q := State.updLine_withQueue ..

@[simp] theorem State.setOpenFrame_withQueue (l : LineId) (frame : Option (List Byte)) :
    (s.withQueue q).setOpenFrame l frame = (s.setOpenFrame l frame).withQueue q := State.updLine_withQueue ..

@[simp] theorem State.openStray_withQueue (l : LineId) (data : Byte) :
    (s.withQueue q).openStray l data = (s.openStray l data).withQueue q := by simp [State.openStray]

@[simp] theorem State.takeOutside_withQueue (l : LineId) (data : Byte) (mark good : Bool) :
    (s.withQueue q).takeOutside l data mark good = (s.takeOutside l data mark good).withQueue q := by
  simp only [State.takeOutside, State.line_withQueue]
  cases opened : (s.line l).openFrame with
  | none => simp
  | some bytes => cases grown : assemble bytes data <;> simp [grown]

@[simp] theorem State.takeWaiting_withQueue (l : LineId) (t : Transaction) (data : Byte) (mark good : Bool) :
    (s.withQueue q).takeWaiting l t data mark good = (s.takeWaiting l t data mark good).withQueue q := by simp [State.takeWaiting]

@[simp] theorem State.discardCandidate_withQueue (l : LineId) :
    (s.withQueue q).discardCandidate l = (s.discardCandidate l).withQueue q := by simp [State.discardCandidate]

@[simp] theorem State.breakCandidate_withQueue (l : LineId) :
    (s.withQueue q).breakCandidate l = (s.breakCandidate l).withQueue q := by simp [State.breakCandidate]

@[simp] theorem State.takeReceiving_withQueue (l : LineId) (t : Transaction) (data : Byte) (mark good : Bool) :
    (s.withQueue q).takeReceiving l t data mark good = (s.takeReceiving l t data mark good).withQueue q := by
  simp only [State.takeReceiving, State.line_withQueue]
  cases assemble ((s.line l).openFrame.getD []) data with
  | growing now => simp
  | broken => simp
  | complete now => cases verdict : judge t now <;> simp [verdict]

@[simp] theorem State.takeCharacter_withQueue (l : LineId) (data : Byte) (mark good : Bool) :
    (s.withQueue q).takeCharacter l data mark good = (s.takeCharacter l data mark good).withQueue q := by
  simp only [State.takeCharacter, State.line_withQueue, State.updLine_withQueue]
  split <;> simp

/-! ## The bodies of the requests -/

@[simp] theorem State.acceptDemand_withQueue (l : LineId) (e : DemandEntry) :
    (s.withQueue q).acceptDemand l e = (s.acceptDemand l e).withQueue q := by simp [State.acceptDemand]

@[simp] theorem State.demand_withQueue (rq : Request) (i : Index) (op : Operation) :
    (s.withQueue q).demand rq i op = (s.demand rq i op).withQueue q := by
  simp only [State.demand, State.liveNode_withQueue, State.line_withQueue]
  cases s.liveNode i with
  | none => simp
  | some n =>
    cases ofNode : n.refusal with
    | some status => simp [ofNode]
    | none => cases ofLine : (s.line n.config.line).refusal <;> simp [ofNode, ofLine]

@[simp] theorem State.broadcast_withQueue (rq : Request) (l : LineId) (op : Operation) :
    (s.withQueue q).broadcast rq l op = (s.broadcast rq l op).withQueue q := by
  simp only [State.broadcast, State.line_withQueue]
  cases (s.line l).refusal <;> simp

@[simp] theorem State.cancelEntry_withQueue (l : LineId) (e : DemandEntry) :
    (s.withQueue q).cancelEntry l e = (s.cancelEntry l e).withQueue q := by simp [State.cancelEntry]

@[simp] theorem State.cancel_withQueue (rq : Request) (target : Byte) :
    (s.withQueue q).cancel rq target = (s.cancel rq target).withQueue q := by
  simp only [State.cancel, State.withQueue_lineA, State.withQueue_lineB]
  split <;> simp

@[simp] theorem State.scanStart_withQueue (rq : Request) (l : LineId) (first last timeout : Byte) :
    (s.withQueue q).scanStart rq l first last timeout = (s.scanStart rq l first last timeout).withQueue q := by simp [State.scanStart]

@[simp] theorem State.scanAbort_withQueue (rq : Request) (l : LineId) :
    (s.withQueue q).scanAbort rq l = (s.scanAbort rq l).withQueue q := by
  simp only [State.scanAbort, State.line_withQueue]
  cases (s.line l).scan with
  | none => simp
  | some j => cases probe : j.probe <;> simp [probe]

@[simp] theorem State.lineSet_withQueue (rq : Request) (l : LineId) (settings : LineSettings) :
    (s.withQueue q).lineSet rq l settings = (s.lineSet rq l settings).withQueue q := by
  simp only [State.lineSet, State.line_withQueue, State.setLine_withQueue]
  by_cases unchanged : settings = (s.line l).settings <;> simp [unchanged]

@[simp] theorem State.lineEnable_withQueue (rq : Request) (l : LineId) :
    (s.withQueue q).lineEnable rq l = (s.lineEnable rq l).withQueue q := by simp [State.lineEnable]

@[simp] theorem State.lineDisable_withQueue (rq : Request) (l : LineId) :
    (s.withQueue q).lineDisable rq l = (s.lineDisable rq l).withQueue q := by simp [State.lineDisable]

@[simp] theorem State.lineInfo_withQueue (rq : Request) (l : LineId) (clear : Bool) :
    (s.withQueue q).lineInfo rq l clear = (s.lineInfo rq l clear).withQueue q := by
  cases clear <;> simp [State.lineInfo]

@[simp] theorem State.nodeAdd_withQueue (rq : Request) (c : NodeConfig) (startDisabled : Bool) :
    (s.withQueue q).nodeAdd rq c startDisabled = (s.nodeAdd rq c startDisabled).withQueue q := by
  simp only [State.nodeAdd, State.addressHeld_withQueue, State.freeIndex_withQueue]
  cases s.freeIndex <;> simp

@[simp] theorem State.nodeSet_withQueue (rq : Request) (i : Index) (c : NodeConfig) :
    (s.withQueue q).nodeSet rq i c = (s.nodeSet rq i c).withQueue q := by
  simp only [State.nodeSet, State.liveNode_withQueue]
  cases s.liveNode i with
  | none => simp
  | some n => by_cases unchanged : c = n.config <;> simp [unchanged]

@[simp] theorem State.nodeRemove_withQueue (rq : Request) (i : Index) :
    (s.withQueue q).nodeRemove rq i = (s.nodeRemove rq i).withQueue q := by
  simp only [State.nodeRemove, State.liveNode_withQueue]
  cases s.liveNode i <;> simp

@[simp] theorem State.nodeEnable_withQueue (rq : Request) (i : Index) :
    (s.withQueue q).nodeEnable rq i = (s.nodeEnable rq i).withQueue q := by
  simp only [State.nodeEnable, State.liveNode_withQueue]
  cases s.liveNode i <;> simp

@[simp] theorem State.nodeDisable_withQueue (rq : Request) (i : Index) :
    (s.withQueue q).nodeDisable rq i = (s.nodeDisable rq i).withQueue q := by
  simp only [State.nodeDisable, State.liveNode_withQueue]
  cases s.liveNode i <;> simp

@[simp] theorem State.nodeInfo_withQueue (rq : Request) (i : Index) (clear : Bool) :
    (s.withQueue q).nodeInfo rq i clear = (s.nodeInfo rq i clear).withQueue q := by
  simp only [State.nodeInfo, State.liveNode_withQueue]
  cases s.liveNode i with
  | none => simp
  | some n => cases clear <;> simp

@[simp] theorem State.readSnapshot_withQueue (rq : Request) (i : Index) :
    (s.withQueue q).readSnapshot rq i = (s.readSnapshot rq i).withQueue q := by
  simp only [State.readSnapshot, State.liveNode_withQueue, State.snapshot_withQueue, State.withQueue_partTime]
  cases s.liveNode i <;> simp

/-! ## The store jobs -/

@[simp] theorem State.endSave_withQueue (tag : Byte) (generation : Word) (good : Bool) :
    (s.withQueue q).endSave tag generation good = (s.endSave tag generation good).withQueue q := by
  cases good
  case false => rw [State.endSave_failed, State.endSave_failed]; rfl
  case true => rw [State.endSave_ok, State.endSave_ok]; rfl

@[simp] theorem State.endErase_withQueue (tag : Byte) (status : Status) :
    (s.withQueue q).endErase tag status = (s.endErase tag status).withQueue q := by
  rw [State.endErase_eq, State.endErase_eq]
  rfl

@[simp] theorem State.startSave_withQueue (tag : Byte) : (s.withQueue q).startSave tag = (s.startSave tag).withQueue q := by
  simp only [State.startSave, State.withQueue_ite, ← State.endSave_withQueue, ← State.beginPhase_withQueue, ← State.setStoreSlot_withQueue]
  rfl

@[simp] theorem State.invalidate_withQueue (tag : Byte) (slot : SlotId) (rest : List SlotId) :
    (s.withQueue q).invalidate tag slot rest = (s.invalidate tag slot rest).withQueue q := by
  cases slot <;> rfl

@[simp] theorem State.eraseNext_withQueue (tag : Byte) (slots : List SlotId) :
    (s.withQueue q).eraseNext tag slots = (s.eraseNext tag slots).withQueue q := by
  cases slots <;> simp [State.eraseNext]

@[simp] theorem State.storeSave_withQueue (rq : Request) : (s.withQueue q).storeSave rq = (s.storeSave rq).withQueue q := by
  simp [State.storeSave]

@[simp] theorem State.storeErase_withQueue (rq : Request) : (s.withQueue q).storeErase rq = (s.storeErase rq).withQueue q := by
  simp [State.storeErase]

/-! ## The host link -/

theorem State.link_withQueue (k : LinkTransaction) :
    { s.withQueue q with link := k } = State.withQueue { s with link := k } q := rfl

@[simp] theorem State.endWrite_withQueue (id : SlotId) (overLength : Bool) :
    (s.withQueue q).endWrite id overLength = (s.endWrite id overLength).withQueue q := by
  simp only [State.endWrite, State.link_withQueue, State.slot_withQueue]
  split
  case h_1 bytes _ =>
    simp only [State.withQueue_ite, State.setSlot_withQueue, State.rejectFrame_withQueue]
    rfl
  case h_2 => rfl

@[simp] theorem State.endRead_withQueue (message : Option Message) (sent : Nat) :
    (s.withQueue q).endRead message sent = (s.endRead message sent).withQueue q := by
  cases message with
  | none => rfl
  | some m =>
    simp only [State.endRead, State.withQueue_ite, ← State.walk_withQueue]
    rfl

@[simp] theorem State.endLink_withQueue : (s.withQueue q).endLink = s.endLink.withQueue q := by
  simp only [State.endLink, State.withQueue_link]
  split <;> simp

@[simp] theorem State.storeByte_withQueue (id : SlotId) (data : Byte) :
    (s.withQueue q).storeByte id data = (s.storeByte id data).withQueue q := by
  simp only [State.storeByte, State.slot_withQueue]
  split
  case h_1 bytes _ =>
    simp only [State.withQueue_ite, State.setSlot_withQueue, State.acknowledge_withQueue]
    rfl
  case h_2 => simp

/-! ## The reset -/

@[simp] theorem State.beginReset_withQueue (cause : ResetCause) :
    (s.withQueue q).beginReset cause = (s.beginReset cause).withQueue q := rfl

@[simp] theorem State.makeDueIfNew_withQueue (i : Index) : (s.withQueue q).makeDueIfNew i = (s.makeDueIfNew i).withQueue q := by
  simp only [State.makeDueIfNew, State.node_withQueue]
  split <;> simp

@[simp] theorem State.loaded_withQueue (cause : ResetCause) (strap : BitVec 2) :
    (s.withQueue q).loaded cause strap = (s.loaded cause strap).withQueue q := rfl

@[simp] theorem State.comeOut_withQueue (cause : ResetCause) (strap : BitVec 2) :
    (s.withQueue q).comeOut cause strap = (s.comeOut cause strap).withQueue q := by
  rw [State.comeOut, State.loaded_withQueue, State.foldl_withQueue _ q State.makeDueIfNew_withQueue, State.askArbiter_withQueue,
    State.askArbiter_withQueue, State.comeOut]

end

end Sys2Proof.Machine
/-! SUPPORT. No command looks at the queue of commands: each is a function of the state that commutes with the replacement of the queue
(spec 95, log entries 2 and 3). -/

namespace Sys2Proof.Machine

/-- A command answers a next state that is a function of the state, and one that commutes with the replacement of the queue. -/
def QueueBlind (c : Instr) : Prop :=
  ∃ f : State → State, (∀ s, exec c s = .next (f s)) ∧ ∀ s q, f (s.withQueue q) = (f s).withQueue q

section
variable {c : Instr}

/-- A row that takes a request is blind to the queue where its owner's rule is (R154). -/
theorem QueueBlind.of_take {k : Option RequestKind} {owner : Request → State → State}
    (row : ∀ s, exec c s = .next (s.take k owner)) (h : ∀ rq s q, owner rq (s.withQueue q) = (owner rq s).withQueue q) :
    QueueBlind c := by
  refine ⟨fun s => s.take k owner, row, fun s q => ?_⟩
  simp only [State.take, State.withQueue_resetting, State.oldestRequest_withQueue, State.freeSpace_withQueue]
  split
  case h_1 id rq _ _ => simp [h]
  case h_2 => rfl

/-- An event of the part out of reset is blind to the queue where its own rule is (R161). -/
theorem QueueBlind.of_awake {f : State → State} (row : ∀ s, exec c s = .next (s.awake f))
    (h : ∀ s q, f (s.withQueue q) = (f s).withQueue q) : QueueBlind c := by
  refine ⟨fun s => s.awake f, row, fun s q => ?_⟩
  simp only [State.awake, State.withQueue_resetting]
  split
  case h_1 => exact h s q
  case h_2 => rfl

/-! ## The requests -/

/-- A row of a request reads its body and answers it, or hands it to the rule of its kind. -/
theorem requestRow_queueBlind {k : Option RequestKind} (h : requestOfRow c = some k) : QueueBlind c := by
  cases c <;> cases h <;> refine .of_take (fun _ => rfl) fun rq s q => ?_
  case unknownKind => exact s.queueReply_withQueue ..
  all_goals split <;> simp

end

/-! ## The field lines -/

theorem responseTimerExpiry_queueBlind (l : LineId) : QueueBlind (.responseTimerExpiry l) := by
  refine .of_awake (fun _ => rfl) fun s q => ?_
  simp only [State.line_withQueue]
  split <;> simp

theorem frameGapExpiry_queueBlind (l : LineId) : QueueBlind (.frameGapExpiry l) :=
  .of_awake (fun _ => rfl) fun s q => by simp

theorem echoDeadlineExpiry_queueBlind (l : LineId) : QueueBlind (.echoDeadlineExpiry l) :=
  .of_awake (fun _ => rfl) fun s q => by simp

theorem stuckSpaceExpiry_queueBlind (l : LineId) : QueueBlind (.stuckSpaceExpiry l) :=
  .of_awake (fun _ => rfl) fun s q => by simp

theorem faultRecovery_queueBlind (l : LineId) : QueueBlind (.faultRecovery l) :=
  .of_awake (fun _ => rfl) fun s q => by simp

theorem guardEnd_queueBlind (l : LineId) : QueueBlind (.guardEnd l) := by
  refine .of_awake (fun _ => rfl) fun s q => ?_
  simp only [State.line_withQueue]
  cases (s.line l).transaction <;> simp

theorem stopBitSent_queueBlind (l : LineId) : QueueBlind (.stopBitSent l) :=
  .of_awake (fun _ => rfl) fun s q => by simp

theorem receivePinChange_queueBlind (l : LineId) (mark : Bool) : QueueBlind (.receivePinChange l mark) := by
  refine ⟨_, fun _ => rfl, fun s q => ?_⟩
  simp only [State.withQueue_resetting]
  split <;> exact s.updLine_withQueue q l _

theorem fieldCharacterReceived_queueBlind (l : LineId) (data : Byte) (mark good : Bool) :
    QueueBlind (.fieldCharacterReceived l data mark good) :=
  .of_awake (fun _ => rfl) fun s q => by simp

/-! ## The host link -/

theorem writeTransactionStart_queueBlind (address : BitVec 7) : QueueBlind (.writeTransactionStart address) := by
  refine ⟨_, fun _ => rfl, fun s q => ?_⟩
  simp only [State.withQueue_resetting, State.endLink_withQueue, State.freeSlot_withQueue, State.targetAddress_withQueue]
  cases s.resetting with
  | some cause => rfl
  | none =>
    cases s.endLink.freeSlot with
    | none => simp
    | some id =>
      simp only [State.withQueue_ite]
      cases id <;> rfl

theorem writeDataByte_queueBlind (data : Byte) : QueueBlind (.writeDataByte data) := by
  refine ⟨_, fun _ => rfl, fun s q => ?_⟩
  simp only [State.withQueue_resetting, State.withQueue_link]
  split <;> simp

theorem writeTransactionEnd_queueBlind : QueueBlind .writeTransactionEnd := by
  refine .of_awake (fun _ => rfl) fun s q => ?_
  simp only [State.withQueue_link]
  split <;> simp

theorem readTransactionStart_queueBlind (address : BitVec 7) : QueueBlind (.readTransactionStart address) := by
  refine ⟨_, fun _ => rfl, fun s q => ?_⟩
  simp only [State.withQueue_resetting, State.endLink_withQueue]
  split
  case h_1 => rfl
  case h_2 => rw [State.withQueue_ite]; rfl

theorem readByteClocked_queueBlind : QueueBlind .readByteClocked := by
  refine .of_awake (fun _ => rfl) fun s q => ?_
  simp only [State.withQueue_link]
  split <;> rfl

theorem readTransactionEnd_queueBlind : QueueBlind .readTransactionEnd := by
  refine .of_awake (fun _ => rfl) fun s q => ?_
  simp only [State.withQueue_link]
  split <;> simp

theorem stallTimerExpiry_queueBlind : QueueBlind .stallTimerExpiry := by
  refine .of_awake (fun _ => rfl) fun s q => ?_
  simp only [State.withQueue_link]
  split
  case h_1 id _ => rw [← State.rejectFrame_withQueue, ← State.setSlot_withQueue]; rfl
  all_goals rfl

/-! ## The reset -/

theorem powerUp_queueBlind : QueueBlind .powerUp := ⟨_, fun _ => rfl, fun _ _ => rfl⟩

theorem rstPinLow_queueBlind : QueueBlind .rstPinLow := ⟨_, fun _ => rfl, fun s q => by simp⟩

theorem resetComplete_queueBlind (adr1 adr0 : Bool) : QueueBlind (.resetComplete adr1 adr0) := by
  refine ⟨_, fun _ => rfl, fun s q => ?_⟩
  simp only [State.withQueue_resetting]
  split
  case h_1 cause _ => exact s.comeOut_withQueue ..
  case h_2 => rfl

/-! ## Part time -/

/-- An event of the entry in use at an index is blind to the queue where its own rule is. -/
theorem State.onNode_withQueue (s : State) (q : List Instr) (index : Nat) {f g : Index → Node → State}
    (h : ∀ i n, f i n = (g i n).withQueue q) : (s.withQueue q).onNode index f = (s.onNode index g).withQueue q := by
  simp only [State.onNode, State.node_withQueue]
  by_cases known : index < 32
  · simp only [known, dite_true]
    split
    case h_1 n _ => exact h _ n
    case h_2 => rfl
  · simp only [known, dite_false]

theorem partTimeTick_queueBlind : QueueBlind .partTimeTick := .of_awake (fun _ => rfl) fun _ _ => rfl

theorem pollTimerExpiry_queueBlind (index : Nat) : QueueBlind (.pollTimerExpiry index) :=
  .of_awake (fun _ => rfl) fun s q => s.onNode_withQueue q index fun i n => by simp

theorem recoveryTimerExpiry_queueBlind (index : Nat) : QueueBlind (.recoveryTimerExpiry index) :=
  .of_awake (fun _ => rfl) fun s q => s.onNode_withQueue q index fun i n => by simp

theorem dueTimeAdvance_queueBlind (index : Nat) : QueueBlind (.dueTimeAdvance index) :=
  .of_awake (fun _ => rfl) fun s q => s.onNode_withQueue q index fun _ _ => s.updLine_withQueue q _ _

theorem snapshotAgeOut_queueBlind (index : Nat) : QueueBlind (.snapshotAgeOut index) := by
  refine .of_awake (fun _ => rfl) fun s q => s.onNode_withQueue q index fun i n => ?_
  simp only [State.snapshot_withQueue, State.withQueue_partTime]
  cases s.snapshot i with
  | none => rfl
  | some x => cases recorded : x.record <;> simp [recorded]

/-! ## The store jobs -/

/-- An event of a SAVE job's phase is blind to the queue where its own rule is. -/
theorem State.inPhase_withQueue (s : State) (q : List Instr) (number : Nat) (phases : List SavePhase)
    {f g : Byte → Image → SlotId → Word → State}
    (h : ∀ tag image target generation, f tag image target generation = (g tag image target generation).withQueue q) :
    (s.withQueue q).inPhase number phases f = (s.inPhase number phases g).withQueue q := by
  simp only [State.inPhase, State.withQueue_storeJob, State.withQueue_storePhases]
  split
  case h_1 => rw [State.withQueue_ite, h]
  case h_2 => rfl

/-- An event of an ERASE job's invalidation is blind to the queue where its own rule is. -/
theorem State.inErase_withQueue (s : State) (q : List Instr) (number : Nat) {f g : Byte → SlotId → List SlotId → Bool → State}
    (h : ∀ tag slot rest held, f tag slot rest held = (g tag slot rest held).withQueue q) :
    (s.withQueue q).inErase number f = (s.inErase number g).withQueue q := by
  simp only [State.inErase, State.withQueue_storeJob, State.withQueue_storePhases]
  split
  case h_1 => rw [State.withQueue_ite, h]
  case h_2 => rfl

theorem saveWriteCompletion_queueBlind (phase : Nat) : QueueBlind (.saveWriteCompletion phase) :=
  .of_awake (fun _ => rfl) fun s q => s.inPhase_withQueue q phase _ fun tag image target generation => by cases target <;> rfl

theorem saveWriteTimerExpiry_queueBlind (phase : Nat) : QueueBlind (.saveWriteTimerExpiry phase) :=
  .of_awake (fun _ => rfl) fun s q => s.inPhase_withQueue q phase _ fun tag _ _ generation => s.endSave_withQueue q tag generation false

theorem saveVerifyReadBack_queueBlind (equal : Bool) (phase : Nat) : QueueBlind (.saveVerifyReadBack equal phase) :=
  .of_awake (fun _ => rfl) fun s q => s.inPhase_withQueue q phase _ fun tag _ _ generation => by
    cases equal with
    | true => rfl
    | false => exact s.endSave_withQueue q tag generation false

theorem saveMarkWriteCompletion_queueBlind (phase : Nat) : QueueBlind (.saveMarkWriteCompletion phase) :=
  .of_awake (fun _ => rfl) fun s q => s.inPhase_withQueue q phase _ fun tag _ target generation => by simp

theorem saveVerifyTimerExpiry_queueBlind (phase : Nat) : QueueBlind (.saveVerifyTimerExpiry phase) :=
  .of_awake (fun _ => rfl) fun s q => s.inPhase_withQueue q phase _ fun tag _ _ generation => s.endSave_withQueue q tag generation false

theorem eraseInvalidationCompletion_queueBlind (cleared : Bool) (phase : Nat) :
    QueueBlind (.eraseInvalidationCompletion cleared phase) :=
  .of_awake (fun _ => rfl) fun s q => s.inErase_withQueue q phase fun tag slot rest held => by
    cases cleared with
    | true => exact s.eraseNext_withQueue q tag rest
    | false =>
      rw [if_neg Bool.false_ne_true, if_neg Bool.false_ne_true, ← State.endErase_withQueue]
      cases slot <;> rfl

theorem eraseTimerExpiry_queueBlind (phase : Nat) : QueueBlind (.eraseTimerExpiry phase) :=
  .of_awake (fun _ => rfl) fun s q => s.inErase_withQueue q phase fun tag _ _ _ => s.endErase_withQueue q tag .storeFailed

/-! ## Every command -/

/-- Every command is blind to the queue: the rows of the requests, and each row of an event. -/
theorem exec_queueBlind (c : Instr) : QueueBlind c := by
  cases row : requestOfRow c with
  | some k => exact requestRow_queueBlind row
  | none =>
    cases c with
    | writeTransactionStart address => exact writeTransactionStart_queueBlind address
    | writeTransactionEnd => exact writeTransactionEnd_queueBlind
    | readTransactionStart address => exact readTransactionStart_queueBlind address
    | readTransactionEnd => exact readTransactionEnd_queueBlind
    | stallTimerExpiry => exact stallTimerExpiry_queueBlind
    | powerUp => exact powerUp_queueBlind
    | rstPinLow => exact rstPinLow_queueBlind
    | resetComplete adr1 adr0 => exact resetComplete_queueBlind adr1 adr0
    | pollTimerExpiry index => exact pollTimerExpiry_queueBlind index
    | recoveryTimerExpiry index => exact recoveryTimerExpiry_queueBlind index
    | dueTimeAdvance index => exact dueTimeAdvance_queueBlind index
    | snapshotAgeOut index => exact snapshotAgeOut_queueBlind index
    | responseTimerExpiry l => exact responseTimerExpiry_queueBlind l
    | frameGapExpiry l => exact frameGapExpiry_queueBlind l
    | echoDeadlineExpiry l => exact echoDeadlineExpiry_queueBlind l
    | stuckSpaceExpiry l => exact stuckSpaceExpiry_queueBlind l
    | faultRecovery l => exact faultRecovery_queueBlind l
    | guardEnd l => exact guardEnd_queueBlind l
    | fieldCharacterReceived l data mark good => exact fieldCharacterReceived_queueBlind l data mark good
    | saveWriteCompletion phase => exact saveWriteCompletion_queueBlind phase
    | saveWriteTimerExpiry phase => exact saveWriteTimerExpiry_queueBlind phase
    | saveVerifyReadBack equal phase => exact saveVerifyReadBack_queueBlind equal phase
    | saveMarkWriteCompletion phase => exact saveMarkWriteCompletion_queueBlind phase
    | saveVerifyTimerExpiry phase => exact saveVerifyTimerExpiry_queueBlind phase
    | eraseInvalidationCompletion cleared phase => exact eraseInvalidationCompletion_queueBlind cleared phase
    | eraseTimerExpiry phase => exact eraseTimerExpiry_queueBlind phase
    | partTimeTick => exact partTimeTick_queueBlind
    | stopBitSent l => exact stopBitSent_queueBlind l
    | receivePinChange l mark => exact receivePinChange_queueBlind l mark
    | writeDataByte data => exact writeDataByte_queueBlind data
    | readByteClocked => exact readByteClocked_queueBlind
    | _ => cases row

/-- Settles O2: a command is a function that commutes with the replacement of the queue. That it leaves the queue as it was is the case in
which the queue is replaced by itself. -/
theorem everyCommandCompletes : Obligations.EveryCommandCompletes := by
  intro c s q
  obtain ⟨f, next, commutes⟩ := exec_queueBlind c
  have kept : f s = (f s).withQueue s.pending := commutes s s.pending
  exact ⟨f s, next s, (congrArg State.pending kept :), (next _).trans (congrArg _ (commutes s q))⟩

end Sys2Proof.Machine
